-- ==== Sys2Proof/Word.lean ====
section
/-! DEFINITION. The words the Kalzen KZ-4S reads and writes, and the names of its four slots.
Quantities the manual counts (lengths, byte counts, times, counters) are `Nat`; what it treats as bits
(addresses, requesters, tags, dwords of the configuration space, the wrapping tick counter) are bit vectors. -/

namespace Sys2Proof

/-- One byte of answer data. -/
abbrev Byte := BitVec 8
/-- A dword is 4 bytes (00_scope.md 2.2). -/
abbrev Dword := BitVec 32
/-- The 64-bit byte address of a memory request (R1). -/
abbrev Address := BitVec 64
/-- The requester of a request: a bus number of 8 bits and a function number of 8 bits (R1), the bus number in bits 8
to 15. The places of the two are DEDUCED (log 36), unsafe. -/
abbrev Requester := BitVec 16
/-- The tag of a request, 0..255 (R1). -/
abbrev Tag := BitVec 8
/-- A byte offset in a configuration space, 0..4095, dword aligned in every well-formed request (R1). -/
abbrev Offset := BitVec 12
/-- The target number of a configuration request or a message, 0..7 (R1). -/
abbrev Target := BitVec 3
/-- Four byte enables; bit `i` stands for byte `i` of the data dword (R1). -/
abbrev ByteEnables := BitVec 4
/-- A value of the free-running tick counter (R49). -/
abbrev Ticks := BitVec 32

/-- The part's own requester number, FFFFh (00_scope.md 1.3, R146, R163). -/
def ownRequester : Requester := 0xFFFF

/-- The four slots S0 to S3. -/
inductive SlotId where
  | s0 | s1 | s2 | s3
deriving DecidableEq, Repr

/-- The two power rails: A serves S0 and S1, B serves S2 and S3 (00_scope.md 2.5). -/
inductive RailId where
  | a | b
deriving DecidableEq, Repr

/-- All four slots in ring order. -/
def SlotId.all : List SlotId := [.s0, .s1, .s2, .s3]

/-- The number of a slot. -/
def SlotId.toNat : SlotId → Nat
  | .s0 => 0
  | .s1 => 1
  | .s2 => 2
  | .s3 => 3

/-- The slot a number names, none above 3. -/
def SlotId.ofNat? : Nat → Option SlotId
  | 0 => some .s0
  | 1 => some .s1
  | 2 => some .s2
  | 3 => some .s3
  | _ => none

/-- The slot after this one, S0 after S3 (R69). -/
def SlotId.succ : SlotId → SlotId
  | .s0 => .s1
  | .s1 => .s2
  | .s2 => .s3
  | .s3 => .s0

/-- The rail that serves a slot (00_scope.md 2.5). -/
def SlotId.rail : SlotId → RailId
  | .s0 => .a
  | .s1 => .a
  | .s2 => .b
  | .s3 => .b

/-- One value for each of the four slots. -/
structure PerSlot (α : Type) where
  s0 : α
  s1 : α
  s2 : α
  s3 : α
deriving DecidableEq, Repr

namespace PerSlot

variable {α : Type}

/-- The same value for every slot. -/
def all (x : α) : PerSlot α := ⟨x, x, x, x⟩

/-- The value of one slot. -/
def get (v : PerSlot α) : SlotId → α
  | .s0 => v.s0
  | .s1 => v.s1
  | .s2 => v.s2
  | .s3 => v.s3

/-- `v` with the value of one slot replaced. -/
def set (v : PerSlot α) (i : SlotId) (x : α) : PerSlot α :=
  match i with
  | .s0 => { v with s0 := x }
  | .s1 => { v with s1 := x }
  | .s2 => { v with s2 := x }
  | .s3 => { v with s3 := x }

/-- `v` with a function applied to the value of one slot. -/
def modify (v : PerSlot α) (i : SlotId) (f : α → α) : PerSlot α := v.set i (f (v.get i))

/-- `v` with a function applied to every slot's value. -/
def map {β : Type} (v : PerSlot α) (f : α → β) : PerSlot β := ⟨f v.s0, f v.s1, f v.s2, f v.s3⟩

end PerSlot

end Sys2Proof
end

