-- ==== Sys2Proof/Syntax.lean ====
section
/-! DEFINITION. The transactions of R1 and the commands of the part: one constructor of `Instr` for each of the
71 rows of spec/opcode_table.json. A row whose event belongs to one slot has that slot as operand. The mailbox
commands have no operand of their own: their operands are the command dword and P0 to P7, which the GO copies
(R170, R176; log 15). -/

namespace Sys2Proof

/-- The four statuses of an answer (R2). -/
inductive Status where
  | ok | unsupported | abort | retry
deriving DecidableEq, Repr

/-- The direction of a message: toward the cards or toward the host (R1). -/
inductive Direction where
  | downstream | upstream
deriving DecidableEq, Repr

/-- The six kinds of transaction with the fields the part reads (R1). `length` is in dwords; an answer's
`data` are the bytes it carries, lowest byte first, carried through unchanged. -/
inductive Transaction where
  | memRead (requester : Requester) (tag : Tag) (address : Address) (length : Nat)
  | memWrite (requester : Requester) (address : Address) (length : Nat) (data : List Dword)
  | cfgRead (requester : Requester) (tag : Tag) (target : Target) (offset : Offset)
  | cfgWrite (requester : Requester) (tag : Tag) (target : Target) (offset : Offset)
      (enables : ByteEnables) (data : Dword)
  | message (direction : Direction) (target : Target)
  | answer (requester : Requester) (tag : Tag) (status : Status) (remaining : Nat) (dataCount : Nat)
      (data : List Byte)
deriving DecidableEq, Repr

/-- The levels of the input lines that power-on reset reads (R126, R133, R134, R75), and whether the trunk is up. -/
structure PowerOnPins where
  straps  : PerSlot Bool
  present : PerSlot Bool
  pwrgd   : PerSlot Bool
  kill    : Bool
  trunkUp : Bool
deriving DecidableEq, Repr

/-- The commands of the part, in the order of spec/opcode_table.json. -/
inductive Instr where
  /-- POWER_ON_RESET (R99). -/
  | powerOnReset (pins : PowerOnPins)
  /-- TRUNK_RESET (R21). `order` is the order in which the four slots take the end of their DRAINING (log 10). -/
  | trunkReset (order : List SlotId)
  /-- INGRESS_CLASSIFY (R3). -/
  | ingressClassify (tx : Transaction)
  /-- INGRESS_TAKE (R14). -/
  | ingressTake
  /-- CONFIG_SPACE_WRITE (R167). -/
  | configSpaceWrite
  /-- GO_LOST (R170). -/
  | goLost
  /-- UNKNOWN_COMMAND (R171). -/
  | unknownCommand
  /-- SEND_QUEUE_DEPARTURE (R16): the slot link has room. -/
  | sendQueueDeparture (slot : SlotId)
  /-- DUPLICATE_KEY_DISPOSAL (R26). -/
  | duplicateKeyDisposal (slot : SlotId)
  /-- CONTAINMENT_QUEUE_ANSWER (R87). -/
  | containmentQueueAnswer (slot : SlotId)
  /-- SLOT_LINK_RECEIVE (R17). -/
  | slotLinkReceive (slot : SlotId) (tx : Transaction)
  /-- RECEIVE_QUEUE_TAKE (R18). `linkRoom`: the slot link has room for a waiting head that a freed entry lets in (log 11). -/
  | receiveQueueTake (slot : SlotId) (linkRoom : Bool)
  /-- EGRESS_GRANT (R20). `linkRoom`: the owning slot's link has room for a waiting head that a freed entry lets in (log 11). -/
  | egressGrant (linkRoom : Bool)
  /-- EXPIRY (R36) of the entry with this number. -/
  | expiry (slot : SlotId) (entry : Nat)
  /-- FENCED_ENTRY_ANSWER (R38). -/
  | fencedEntryAnswer (slot : SlotId)
  /-- STALL_TRIP (R65). -/
  | stallTrip (slot : SlotId)
  /-- HEALTH_VISIT (R69). -/
  | healthVisit
  /-- CORRECTED_LINK_ERROR (R68). -/
  | correctedLinkError (slot : SlotId)
  /-- LINK_LOSS (R66). -/
  | linkLoss (slot : SlotId)
  /-- LINK_UP (R107). -/
  | linkUp (slot : SlotId)
  /-- POWER_LOSS (R67). -/
  | powerLoss (slot : SlotId)
  /-- POWER_RISE (R133). -/
  | powerRise (slot : SlotId)
  /-- KILL_ASSERT (R74). `order` is the order in which the four sequencers take the edge (log 10). -/
  | killAssert (order : List SlotId)
  /-- KILL_DEASSERT (R75). -/
  | killDeassert
  /-- REMOVAL (R135). -/
  | removal (slot : SlotId)
  /-- INSERTION (R137). -/
  | insertion (slot : SlotId)
  /-- DRAIN_TIMER_RUNS_OUT (R84). -/
  | drainTimerRunsOut (slot : SlotId)
  /-- EXECUTOR_ACCESS_SEND (R146): the slot link has room. -/
  | executorAccessSend (slot : SlotId)
  /-- FUNCTION_RESET_TIMER_RUNS_OUT (R105). -/
  | functionResetTimerRunsOut (slot : SlotId)
  /-- FUNCTION_RESET_REISSUE (R105). -/
  | functionResetReissue (slot : SlotId)
  /-- RESET_ASSERT_TIMER_RUNS_OUT (R106). -/
  | resetAssertTimerRunsOut (slot : SlotId)
  /-- LINK_WAIT_TIMER_RUNS_OUT (R107). -/
  | linkWaitTimerRunsOut (slot : SlotId)
  /-- SETTLE_TIMER_RUNS_OUT (R108). -/
  | settleTimerRunsOut (slot : SlotId)
  /-- POWER_OFF_TIMER_RUNS_OUT (R109). -/
  | powerOffTimerRunsOut (slot : SlotId)
  /-- PWRGD_LIMIT_RUNS_OUT (R110). -/
  | pwrgdLimitRunsOut (slot : SlotId)
  /-- ON_SETTLE_RUNS_OUT (R110). -/
  | onSettleRunsOut (slot : SlotId)
  /-- STEP_TIMER_RUNS_OUT (R149). -/
  | stepTimerRunsOut (slot : SlotId)
  /-- STEP_REISSUE (R149). -/
  | stepReissue (slot : SlotId)
  /-- POLL_INTERVAL_RUNS_OUT (R150). -/
  | pollIntervalRunsOut (slot : SlotId)
  /-- POLL_LIMIT_RUNS_OUT (R150). -/
  | pollLimitRunsOut (slot : SlotId)
  /-- PAUSE_RUNS_OUT (R151). -/
  | pauseRunsOut (slot : SlotId)
  /-- PROBATION_TIMER_RUNS_OUT (R115). -/
  | probationTimerRunsOut (slot : SlotId)
  /-- SET_WINDOW (R9). -/
  | setWindow
  /-- COMMIT_WINDOWS (R10). -/
  | commitWindows
  /-- SET_SLOT_BUS (R11). -/
  | setSlotBus
  /-- SET_PLAN (R101). -/
  | setPlan
  /-- SET_LIMITS (R53). -/
  | setLimits
  /-- SET_MONITOR (R73). -/
  | setMonitor
  /-- SET_VISIT (R72). -/
  | setVisit
  /-- SET_TIMEBASE (R48). -/
  | setTimebase
  /-- LOAD_STEP (R141). -/
  | loadStep
  /-- SET_SCRIPT_LENGTH (R142). -/
  | setScriptLength
  /-- COMMIT_SCRIPT (R143). -/
  | commitScript
  /-- CAPTURE (R144). -/
  | capture
  /-- ADMIT (R122). -/
  | admitSlot
  /-- ISOLATE (R76). -/
  | isolate
  /-- RECOVER (R119). -/
  | recover
  /-- HOLD (R116). -/
  | hold
  /-- RESUME (R117). -/
  | resume
  /-- ABORT (R118). -/
  | abort
  /-- RETIRE (R120). -/
  | retire
  /-- RELEASE (R121). -/
  | release
  /-- QUERY_SLOT (R177). -/
  | querySlot
  /-- READ_INCIDENT (R159). -/
  | readIncident
  /-- READ_COUNTERS (R161). -/
  | readCounters
  /-- SET_NOTICE (R165). -/
  | setNotice
  /-- ACK_NOTICES (R164). -/
  | ackNotices
  /-- RESET_PART (R172). -/
  | resetPart
  /-- RESET_PART_END (R173). -/
  | resetPartEnd
  /-- TRUNK_UP (R21). -/
  | trunkUp
  /-- TICK_END (R49). -/
  | tickEnd
deriving DecidableEq, Repr

end Sys2Proof
end

