-- ==== Sys2Proof/Decode.lean ====
section
/-! DEFINITION. spec/opcode_table.json gives no bits to any of its rows (the commands are events of the part, not
encoded instructions), so no word spells a command and nothing is decoded. -/

namespace Sys2Proof

/-- The command a word spells by the table's bits: none, since the table gives bits to no row (log 3). -/
def decodeTableWord (_nbits _w : Nat) : Option Instr := none

end Sys2Proof
end

