-- ==== Sys2Proof/Machine/Bits.lean ====
section
/-! DEFINITION. Fields of dwords, the byte order of a dword, and saturating counting. -/

namespace Sys2Proof.Machine

/-- The `width` bits of a dword from bit `lo` upward, as a number (10 section 10.6: bit 0 is the least significant). -/
def field (d : Dword) (lo width : Nat) : Nat := d.toNat / 2 ^ lo % 2 ^ width

/-- One bit of a dword. -/
def bit (d : Dword) (i : Nat) : Bool := d.getLsbD i

/-- A dword that holds the low `width` bits of `n` from bit `lo` upward and 0 elsewhere. -/
def place (lo width n : Nat) : Dword := BitVec.ofNat 32 (n % 2 ^ width * 2 ^ lo)

/-- A dword that holds one flag at bit `i` and 0 elsewhere. -/
def placeBit (i : Nat) (b : Bool) : Dword := place i 1 b.toNat

/-- A number as a whole dword. -/
def dwordOf (n : Nat) : Dword := BitVec.ofNat 32 n

/-- The mask that four byte enables select: enable `i` selects byte `i`, bits 8i to 8i+7.
DEDUCED (log 23) from the worked case of 08 section 8.6 (byte 2 of 00AB0000h is ABh), unsafe. -/
def enableMask (e : ByteEnables) : Dword :=
  (if e.getLsbD 0 then 0x000000FF else 0) ||| (if e.getLsbD 1 then 0x0000FF00 else 0) |||
  (if e.getLsbD 2 then 0x00FF0000 else 0) ||| (if e.getLsbD 3 then 0xFF000000 else 0)

/-- A dword with the enabled bytes of another written over it (R145, R167). -/
def mergeBytes (e : ByteEnables) (old new : Dword) : Dword :=
  (old &&& ~~~ enableMask e) ||| (new &&& enableMask e)

/-- The bytes of a dword, byte 0 first (log 23). -/
def dwordBytes (d : Dword) : List Byte :=
  [d.extractLsb' 0 8, d.extractLsb' 8 8, d.extractLsb' 16 8, d.extractLsb' 24 8]

/-- The dword the first four bytes of a list make, byte 0 first (log 23), the rest of a longer list
disregarded (log 40); none of a shorter list. -/
def dwordOfBytes? : List Byte → Option Dword
  | b0 :: b1 :: b2 :: b3 :: _ => some (b3 ++ b2 ++ b1 ++ b0)
  | _ => none

/-- A saturating count goes up by `k` and stops at its limit (00_scope.md 2.4). -/
def satAdd (limit n k : Nat) : Nat := min limit (n + k)

/-- A number brought to the nearest end of a range (00_scope.md 2.4). -/
def clampTo (lo hi n : Nat) : Nat := if n < lo then lo else if hi < n then hi else n

/-- Points in time are compared modularly: `t` has been reached when (now - t) mod 2^32 is below 2^31 (R50). -/
def reached (now t : Ticks) : Bool := decide ((now - t).toNat < 2 ^ 31)

/-- The ticks from a recorded time to now, across a wrap of the counter too (R50). -/
def ticksSince (now t : Ticks) : Nat := (now - t).toNat

/-- A time in units as ticks (R51). -/
def units (n : Nat) : Nat := n * 1024

/-- A remaining count of ticks reported in units, rounded up (R51). -/
def reportUnits (ticks : Nat) : Nat := (ticks + 1023) / 1024

/-- `l` with `f` applied to its first element that satisfies `q`. -/
def updateFirst {α : Type} (q : α → Bool) (f : α → α) : List α → List α
  | [] => []
  | x :: xs => if q x then f x :: xs else x :: updateFirst q f xs

end Sys2Proof.Machine
end

