-- ==== Sys2Proof/Config.lean ====
section
/-! DEFINITION. The fixed figures of the part (00_scope.md 4.1) and the one value the manual leaves open. -/

namespace Sys2Proof.Config

/-- ORT entries per slot (R22). -/
def ortEntries : Nat := 32
/-- Send Queue entries per slot (R15). -/
def sendQueueEntries : Nat := 16
/-- Receive Queue entries per slot (R17). -/
def receiveQueueEntries : Nat := 16
/-- SAQ items, shared by all slots (R91). -/
def saqItems : Nat := 64
/-- Restore steps per script copy (R139). -/
def scriptSteps : Nat := 64
/-- Ticks in a sequencer unit (R51). -/
def ticksPerUnit : Nat := 1024
/-- The greatest latency of a sample (R55) and the greatest age of a snapshot (R45). -/
def latencyLimit : Nat := 65535
/-- Latency samples before an estimator is learned (R54). -/
def learningSamples : Nat := 8
/-- Where a statistic counter stops (00_scope.md 2.4, R160). -/
def counterLimit : Nat := 4294967295
/-- Where a counter of an incident record stops (00_scope.md 2.4, R154). -/
def incidentLimit : Nat := 65535
/-- Where the pending counts and the health accumulators stop (R68, R70). -/
def accumulatorLimit : Nat := 255
/-- Attempts per level are counted 0..7 (R99). -/
def attemptLimit : Nat := 7

/-- DESIGN CHOICE (log 8), unsafe: the dword the Restore Executor reads from an OK answer to its CONFIG READ that
carries fewer than four data bytes. R2 says such an answer carries the request's one dword and states nothing for
one that does not; the value is free, fresh at each use. -/
opaque freeReadDword : Nat → Dword

end Sys2Proof.Config
end

