-- ==== Sys2Proof/Machine/Types.lean ====
section
/-! DEFINITION. The records and tables the part holds, as the chapters name them. Only data types stand here;
their values after a reset are in Machine/Defaults.lean. -/

namespace Sys2Proof.Machine

/-! ### Routing (chapter 1) -/

/-- The destination ingress gives a transaction when it becomes the head (R3); `refused` is a memory request whose
window lacks the right it needs (R8). -/
inductive Destination where
  | management
  | slot (i : SlotId)
  | unrouted
  | refused
deriving DecidableEq, Repr

/-- The ingress head: a transaction and the destination it was given once (R3). -/
structure IngressHead where
  tx   : Transaction
  dest : Destination
deriving DecidableEq, Repr

/-- One window of the Window Table (01 section 1.3). -/
structure Window where
  valid      : Bool
  base       : Address
  limit      : Address
  slot       : SlotId
  readRight  : Bool
  writeRight : Bool
deriving DecidableEq, Repr

/-- The six sources of the Egress Arbiter in ring order (R20). -/
inductive Source where
  | slot (i : SlotId)
  | syn
  | mgt
deriving DecidableEq, Repr

/-- What the part puts on a slot link: the fields of R1 unchanged, a configuration request without its target
number (R4, R16). -/
inductive LinkTransaction where
  | memRead (requester : Requester) (tag : Tag) (address : Address) (length : Nat)
  | memWrite (requester : Requester) (address : Address) (length : Nat) (data : List Dword)
  | cfgRead (requester : Requester) (tag : Tag) (offset : Offset)
  | cfgWrite (requester : Requester) (tag : Tag) (offset : Offset) (enables : ByteEnables) (data : Dword)
  | message (direction : Direction) (target : Target)
  | answer (requester : Requester) (tag : Tag) (status : Status) (remaining : Nat) (dataCount : Nat)
      (data : List Byte)
deriving DecidableEq, Repr

/-! ### Outstanding Request Table (chapter 2) -/

/-- The four entry states (R24). -/
inductive EntryState where
  | live | fenced | answering | tombstone
deriving DecidableEq, Repr

/-- The two classes of request (03 section 3.3). -/
inductive RequestClass where
  | mem | cfg
deriving DecidableEq, Repr

/-- The kind of an entry's request with the fields the ORT keeps for that kind (R23): address and length of a
MEMORY READ, offset of a configuration request, write record of a CONFIG WRITE. -/
inductive EntryRequest where
  | memRead (address : Address) (length : Nat)
  | cfgRead (offset : Offset)
  | cfgWrite (offset : Offset) (enables : ByteEnables) (data : Dword)
deriving DecidableEq, Repr

/-- An occupied entry of a slot's ORT (R22, R23). -/
structure Entry where
  number    : Nat
  requester : Requester
  tag       : Tag
  request   : EntryRequest
  issueTime : Ticks
  deadline  : Ticks
  remaining : Nat
  keepKey   : Bool
  state     : EntryState
deriving DecidableEq, Repr

/-! ### Deadline Unit (chapter 3) -/

/-- A limits record (R52). -/
structure Limits where
  floor : Nat
  ceil  : Nat
  mult  : Nat
  per16 : Nat
deriving DecidableEq, Repr

/-- A latency estimator (R54). -/
structure Estimator where
  est16   : Nat
  samples : Nat
deriving DecidableEq, Repr

/-- The two limits records and two estimators of a slot. -/
structure DeadlineUnit where
  memLimits : Limits
  cfgLimits : Limits
  memEst    : Estimator
  cfgEst    : Estimator
deriving DecidableEq, Repr

/-! ### Detection (chapter 4) -/

/-- The eight trip causes, in the order of the cause set's bits (10 section 10.6). -/
inductive TripCause where
  | deadline | stall | linkDown | linkErrors | strayAnswers | powerLoss | external | commanded
deriving DecidableEq, Repr

/-- The cause set: one bit per trip cause (10 section 10.6). -/
abbrev CauseSet := BitVec 8

/-- A monitor record (R73). -/
structure MonitorRecord where
  stallLimit  : Nat
  errThresh   : Nat
  strayThresh : Nat
  decay       : Nat
deriving DecidableEq, Repr

/-- The Stall Monitor's count, the Health Monitor's counts of a slot, and their settings. `stallDue` is the model's
own: the counting monitor has reached 0 and its STALL trip has not been taken yet (log 13). -/
structure Detection where
  stallCount    : Nat
  stallDue      : Bool
  monitor       : MonitorRecord
  pendingErrors : Nat
  pendingStrays : Nat
  errAcc        : Nat
  strayAcc      : Nat
deriving DecidableEq, Repr

/-! ### Synthetic answers (chapter 5) -/

/-- The answer style of a plan (R90). -/
inductive AnswerStyle where
  | ones | abort
deriving DecidableEq, Repr

/-- The data style of an item of the SAQ (R91). -/
inductive DataStyle where
  | ones | none
deriving DecidableEq, Repr

/-- The ORT entry that owns an item (R91). -/
structure Owner where
  slot  : SlotId
  entry : Nat
deriving DecidableEq, Repr

/-- An item of the Synthetic Answer Queue (R91). `ofReset` is the model's own mark of an item that a RESET PART appended
while it was in progress (R97, R172, log 41). -/
structure SaqItem where
  requester : Requester
  tag       : Tag
  status    : Status
  remaining : Nat
  style     : DataStyle
  owner     : Option Owner
  ofReset   : Bool := false
deriving DecidableEq, Repr

/-! ### Recovery Sequencer (chapter 6) -/

/-- The eight slot states (00_scope.md 1.4). -/
inductive SlotState where
  | empty | offline | online | draining | fenced | recovering | probation | retired
deriving DecidableEq, Repr

/-- The nine recovery phases (00_scope.md 1.4). RESET_RELEASE is entered and left in one event (R106), so no state
between two events holds it. -/
inductive Phase where
  | functionReset | resetAssert | railWait | powerOff | powerOn | resetRelease | linkWait | settle | restoring
deriving DecidableEq, Repr

/-- The three recovery levels; NONE is `none` of `Option Level` (R99). -/
inductive Level where
  | function | slot | power
deriving DecidableEq, Repr

/-- One value for each recovery level. -/
structure PerLevel where
  function : Nat
  slot     : Nat
  power    : Nat
deriving DecidableEq, Repr

/-- What a retired slot's power does (R113). -/
inductive RetireAction where
  | holdReset | powerOff
deriving DecidableEq, Repr

/-- The function reset write of a plan (R100). -/
structure FunctionReset where
  offset : Offset
  data   : Dword
deriving DecidableEq, Repr

/-- A plan record (R100). Times are in units. -/
structure Plan where
  startLevel        : Level
  attempts          : PerLevel
  functionReset     : Option FunctionReset
  autoCauses        : CauseSet
  style             : AnswerStyle
  drain             : Nat
  assert            : Nat
  off               : Nat
  pwrgdLimit        : Nat
  onSettle          : Nat
  linkLimit         : Nat
  settle            : Nat
  stepLimit         : Nat
  probation         : Nat
  restoreOnRecovery : Bool
  restoreOnAdmit    : Bool
  retireAction      : RetireAction
deriving DecidableEq, Repr

/-- A unit timer: none while it does not exist, else its remaining count of ticks (R51). -/
abbrev UnitTimer := Option Nat

/-- The state of a slot's Recovery Sequencer (R99). `pwrgdSeen` says that POWER_ON is in its second part (R110). -/
structure Sequencer where
  state          : SlotState
  phase          : Option Phase
  level          : Option Level
  attempts       : PerLevel
  held           : Bool
  plan           : Plan
  sample         : Plan
  drainTimer     : UnitTimer
  phaseTimer     : UnitTimer
  reissueTimer   : UnitTimer
  probationTimer : UnitTimer
  pwrgdSeen      : Bool
deriving DecidableEq, Repr

/-! ### Slot lines and rails (chapter 7) -/

/-- The lines of a slot: SLOT-RESET asserted, POWER-ENABLE on, the strap as sampled, PWRGD asserted, PRESENT
asserted, and the slot link up (R66, R126 to R134). -/
structure Lines where
  slotReset    : Bool
  powerEnable  : Bool
  powerControl : Bool
  pwrgd        : Bool
  present      : Bool
  linkUp       : Bool
deriving DecidableEq, Repr

/-- What the Rail Arbiter holds for one rail (R129). -/
structure Rail where
  holder  : Option SlotId
  waiting : Option SlotId
deriving DecidableEq, Repr

/-! ### Restore scripts (chapter 8) -/

/-- A restore step (R140). -/
inductive Step where
  | write (offset : Offset) (enables : ByteEnables) (value : Dword)
  | verify (offset : Offset) (mask : Dword) (expected : Dword)
  | poll (offset : Offset) (mask : Dword) (expected : Dword) (limit : Nat)
  | pause (units : Nat)
deriving DecidableEq, Repr

/-- A slot's Script Store (R139): the staging copy holds a step at each of its 64 positions, `stagingLength` of
them inside the script; the active copy is the list of its steps. -/
structure ScriptStore where
  staging       : Vector Step 64
  stagingLength : Nat
  active        : List Step
  capture       : Bool
  overflow      : Bool
  commitPending : Bool
deriving DecidableEq, Repr

/-- What the executor asks of a card (R146). -/
inductive AccessRequest where
  | write (offset : Offset) (enables : ByteEnables) (data : Dword)
  | read (offset : Offset)
deriving DecidableEq, Repr

/-- The access in flight, its tag, and whether it has gone to the slot link yet (R146). -/
structure Access where
  tag     : Tag
  request : AccessRequest
  onLink  : Bool
deriving DecidableEq, Repr

/-- A slot's Restore Executor (R146). `withheld` says that the access of the current phase or step waits for RESUME
(R117, R152). -/
structure Executor where
  inFlight      : Option Access
  withheld      : Bool
  nextTag       : Tag
  step          : Option Nat
  stepTimer     : UnitTimer
  reissueTimer  : UnitTimer
  intervalTimer : UnitTimer
  limitTimer    : UnitTimer
  pauseTimer    : UnitTimer
deriving DecidableEq, Repr

/-! ### Incidents, counters, notices (chapter 9) -/

/-- The kind of an incident (R154). -/
inductive IncidentKind where
  | fault | admission
deriving DecidableEq, Repr

/-- The first cause of an incident: a trip cause, REMOVAL or ADMIT (R154). -/
inductive FirstCause where
  | trip (cause : TripCause)
  | removal
  | admission
deriving DecidableEq, Repr

/-- The state at trip of an incident (R154). -/
inductive TripState where
  | online | probation | offline
deriving DecidableEq, Repr

/-- The outcome of an incident (R154). -/
inductive IncidentOutcome where
  | none | pending | recovered | retired | failed | aborted | removed
deriving DecidableEq, Repr

/-- Kind and address or offset of the oldest-entry snapshot (R154). -/
inductive SnapshotTarget where
  | memRead (address : Address)
  | cfgRead (offset : Offset)
  | cfgWrite (offset : Offset)
deriving DecidableEq, Repr

/-- The oldest-entry snapshot (R45). -/
structure Snapshot where
  target    : SnapshotTarget
  requester : Requester
  tag       : Tag
  age       : Nat
deriving DecidableEq, Repr

/-- What the ORT and the Deadline Unit give a record at a trip (R45, R60). -/
structure TripView where
  liveCount : Nat
  snapshot  : Option Snapshot
  memEst    : Nat
  cfgEst    : Nat
deriving DecidableEq, Repr

/-- An incident record (R154). -/
structure Incident where
  sequence   : BitVec 16
  kind       : IncidentKind
  slot       : SlotId
  firstCause : FirstCause
  further    : CauseSet
  tripState  : TripState
  openTime   : Ticks
  view       : TripView
  highest    : Option Level
  attempts   : PerLevel
  synthetic  : Nat
  dropped    : Nat
  stale      : Nat
  outcome    : IncidentOutcome
  closeTime  : Option Ticks
deriving DecidableEq, Repr

/-- The eight counters of a slot (R160). -/
structure SlotCounters where
  forwarded           : Nat
  synthetic           : Nat
  stale               : Nat
  stray               : Nat
  droppedCardRequests : Nat
  droppedWrites       : Nat
  duplicateKeys       : Nat
  trips               : Nat
deriving DecidableEq, Repr

/-- The three part-wide counters (R160). -/
structure PartCounters where
  unrouted : Nat
  rights   : Nat
  notices  : Nat
deriving DecidableEq, Repr

/-- The notice summary (R162). -/
structure Summary where
  slots      : PerSlot Bool
  killChange : Bool
deriving DecidableEq, Repr

/-- Notice enable, notice address (0: none set), and the one unsent notice (R163, R165). -/
structure Notices where
  summary : Summary
  enabled : Bool
  address : Address
  unsent  : Bool
deriving DecidableEq, Repr

/-! ### Management Function (chapter 10) -/

/-- What the Management Function presents to the Egress Arbiter (R169). -/
inductive Presented where
  | answer | notice
deriving DecidableEq, Repr

/-- An answer of the Management Function, final, with status OK (R167): `data` is the dword of a CONFIG READ. -/
structure MgtAnswer where
  requester : Requester
  tag       : Tag
  data      : Option Dword
deriving DecidableEq, Repr

/-- The mailbox states (R170). -/
inductive MailboxState where
  | idle | busy | done
deriving DecidableEq, Repr

/-- The result codes of R171, in the order of their numbers. -/
inductive Result where
  | ok | clamped | deferred | unknownCommand | badSlot | badIndex | wrongState | planInvalid
deriving DecidableEq, Repr

/-- The mailbox (R167, R170): status, command dword, P0 to P7, D0 to D15, and the copy of the command dword and
P0 to P7 that the command last started uses. -/
structure Mailbox where
  state       : MailboxState
  result      : Result
  goLost      : Bool
  code        : BitVec 8
  command     : Dword
  params      : Vector Dword 8
  response    : Vector Dword 16
  copyCommand : Dword
  copyParams  : Vector Dword 8
deriving DecidableEq, Repr

/-- The Health Monitor's part-wide state (R69, R72). -/
structure HealthMonitor where
  visit      : Nat
  visitTimer : Nat
  nextSlot   : SlotId
deriving DecidableEq, Repr

/-- The timebase (R47, R49): PRESCALE as last written, the PRESCALE the tick in progress began with, and now. -/
structure Timebase where
  prescale     : Nat
  tickPrescale : Nat
  now          : Ticks
deriving DecidableEq, Repr

/-! ### One slot -/

/-- The queues and the table a slot's traffic passes through (chapters 1 and 2), and the model's own record of what
the part has put on the slot link (log 7). -/
structure Traffic where
  sendQueue : List Transaction
  recvQueue : List Transaction
  stage     : Option Transaction
  ort       : List Entry
  linkSent  : List LinkTransaction
deriving DecidableEq, Repr

/-- Everything that exists once per slot. -/
structure Slot where
  seq       : Sequencer
  traffic   : Traffic
  deadlines : DeadlineUnit
  detect    : Detection
  lines     : Lines
  script    : ScriptStore
  exec      : Executor
  current   : Incident
  previous  : Incident
  counters  : SlotCounters
deriving DecidableEq, Repr

end Sys2Proof.Machine
end

