-- ==== Sys2Proof/Machine/Defaults.lean ====
section
/-! DEFINITION. The values the chapters give each record at power-on reset, which are also the defaults a management
reset returns the tables to. -/

namespace Sys2Proof.Machine

/-- The window both copies hold at power-on reset (R10). -/
def Window.default : Window :=
  { valid := false, base := 0, limit := 0xFFF, slot := .s0, readRight := false, writeRight := false }

/-- Sixteen default windows (R10). -/
def defaultWindows : Vector Window 16 := Vector.replicate 16 Window.default

/-- The MEM defaults of R52. -/
def Limits.memDefault : Limits := { floor := 1000, ceil := 40000, mult := 16, per16 := 8 }
/-- The CFG defaults of R52. -/
def Limits.cfgDefault : Limits := { floor := 2000, ceil := 50000, mult := 16, per16 := 0 }
/-- A reset estimator (R54). -/
def Estimator.zero : Estimator := { est16 := 0, samples := 0 }

/-- The Deadline Unit at power-on reset (R62). -/
def DeadlineUnit.default : DeadlineUnit :=
  { memLimits := Limits.memDefault, cfgLimits := Limits.cfgDefault, memEst := Estimator.zero, cfgEst := Estimator.zero }

/-- The monitor defaults of R73. -/
def MonitorRecord.default : MonitorRecord := { stallLimit := 20000, errThresh := 32, strayThresh := 8, decay := 1 }

/-- Detection at power-on reset (04 section 4.9). -/
def Detection.default : Detection :=
  { stallCount := 20000, stallDue := false, monitor := MonitorRecord.default,
    pendingErrors := 0, pendingStrays := 0, errAcc := 0, strayAcc := 0 }

/-- All attempt counts at one value. -/
def PerLevel.all (n : Nat) : PerLevel := { function := n, slot := n, power := n }

/-- The default AUTO CAUSES of R100: DEADLINE, STALL, LINK_DOWN, LINK_ERRORS, STRAY_ANSWERS, POWER_LOSS, in the bit
order of the cause set (10 section 10.6). -/
def defaultAutoCauses : CauseSet := 0x3F

/-- The default plan record (R100). -/
def Plan.default : Plan :=
  { startLevel := .slot
    attempts := { function := 1, slot := 2, power := 1 }
    functionReset := none
    autoCauses := defaultAutoCauses
    style := .ones
    drain := 10
    assert := 100
    off := 1000
    pwrgdLimit := 500
    onSettle := 100
    linkLimit := 1000
    settle := 100
    stepLimit := 50
    probation := 5000
    restoreOnRecovery := true
    restoreOnAdmit := true
    retireAction := .holdReset }

/-- The sequencer at power-on reset (R99): OFFLINE with a card seated, EMPTY without. The plan sample is undefined
until it is taken; the model names the default plan for it. DESIGN CHOICE (log 6), unsafe. -/
def Sequencer.powerOn (present : Bool) : Sequencer :=
  { state := if present then .offline else .empty
    phase := none
    level := none
    attempts := PerLevel.all 0
    held := false
    plan := Plan.default
    sample := Plan.default
    drainTimer := none
    phaseTimer := none
    reissueTimer := none
    probationTimer := none
    pwrgdSeen := false }

/-- The lines at power-on reset: SLOT-RESET asserted, POWER-ENABLE off, the link down, the inputs as read (R66, R126,
R127, R128, R133, R134). -/
def Lines.powerOn (strap present pwrgd : Bool) : Lines :=
  { slotReset := true, powerEnable := false, powerControl := strap, pwrgd := pwrgd, present := present, linkUp := false }

/-- The step a position outside the script holds (R139). -/
def Step.idle : Step := .pause 1

/-- The Script Store at power-on reset (R139). -/
def ScriptStore.default : ScriptStore :=
  { staging := Vector.replicate 64 Step.idle, stagingLength := 0, active := [],
    capture := false, overflow := false, commitPending := false }

/-- The executor at power-on reset (R146). -/
def Executor.default : Executor :=
  { inFlight := none, withheld := false, nextTag := 0, step := none, stepTimer := none, reissueTimer := none,
    intervalTimer := none, limitTimer := none, pauseTimer := none }

/-- What an empty record holds of the ORT and the estimates (R154). -/
def TripView.zero : TripView := { liveCount := 0, snapshot := none, memEst := 0, cfgEst := 0 }

/-- An empty incident record (R154). Its slot field, a number like the others, reads as S0, and its
state at trip as ONLINE (code 0), which R154 does not say. DEDUCED (log 26), unsafe. -/
def Incident.empty : Incident :=
  { sequence := 0, kind := .fault, slot := .s0, firstCause := .trip .deadline, further := 0, tripState := .online,
    openTime := 0, view := TripView.zero, highest := none, attempts := PerLevel.all 0, synthetic := 0, dropped := 0,
    stale := 0, outcome := .none, closeTime := none }

/-- The counters at power-on reset (R160). -/
def SlotCounters.zero : SlotCounters :=
  { forwarded := 0, synthetic := 0, stale := 0, stray := 0, droppedCardRequests := 0, droppedWrites := 0,
    duplicateKeys := 0, trips := 0 }

/-- The part-wide counters at power-on reset (R160). -/
def PartCounters.zero : PartCounters := { unrouted := 0, rights := 0, notices := 0 }

/-- A clear notice summary (R162). -/
def Summary.clear : Summary := { slots := PerSlot.all false, killChange := false }

/-- The notices at power-on reset (R162, R163, R165), to which the end of a management reset returns (R166). -/
def Notices.default : Notices := { summary := Summary.clear, enabled := false, address := 0, unsent := false }

/-- The mailbox at power-on reset (R167, R170). The copy made at a GO has no stated value before the first GO.
DESIGN CHOICE (log 9), unsafe. -/
def Mailbox.default : Mailbox :=
  { state := .idle, result := .ok, goLost := false, code := 0, command := 0, params := Vector.replicate 8 0,
    response := Vector.replicate 16 0, copyCommand := 0, copyParams := Vector.replicate 8 0 }

/-- The timebase at power-on reset (R47, R49). -/
def Timebase.default : Timebase := { prescale := 99, tickPrescale := 99, now := 0 }

/-- The Health Monitor at power-on reset (R69, R72). -/
def HealthMonitor.default : HealthMonitor := { visit := 250, visitTimer := 250, nextSlot := .s0 }

/-- A free rail with no waiting request (R129). -/
def Rail.free : Rail := { holder := none, waiting := none }

/-- Empty queues and an empty ORT (R15, R17, R19, R22). -/
def Traffic.default : Traffic := { sendQueue := [], recvQueue := [], stage := none, ort := [], linkSent := [] }

/-- A slot at power-on reset. -/
def Slot.powerOn (strap present pwrgd : Bool) : Slot :=
  { seq := Sequencer.powerOn present
    traffic := Traffic.default
    deadlines := DeadlineUnit.default
    detect := Detection.default
    lines := Lines.powerOn strap present pwrgd
    script := ScriptStore.default
    exec := Executor.default
    current := Incident.empty
    previous := Incident.empty
    counters := SlotCounters.zero }

/-- The input levels `State.reset` reads: no card seated, no power control, no supply, KILL deasserted, and the trunk
up. DESIGN CHOICE (log 4, log 5), unsafe: the manual gives inputs no level; POWER_ON_RESET takes them as operands. -/
def PowerOnPins.default : PowerOnPins :=
  { straps := PerSlot.all false, present := PerSlot.all false, pwrgd := PerSlot.all false, kill := false, trunkUp := true }

end Sys2Proof.Machine
end

