-- ==== Sys2Proof/Machine/State.lean ====
section
/-! DEFINITION. The state of the part, as plain data, and its value right after reset. INVENTORY.md lists every field
with the rule that names it. -/

namespace Sys2Proof.Machine

/-- Why a step could stop with a fault: never. No rule describes a fault that stops the part, so this type has no
constructor and no meaning raises one (safe). -/
inductive Fault where
deriving DecidableEq, Repr

/-- Why a command could have no meaning. -/
inductive Refusal where
  /-- Raised by an arm of `exec` whose command has no meaning yet; no arm raises it now (safe). -/
  | notModelled (mnemonic : String)
deriving DecidableEq, Repr

/-- Everything the part holds, the queue of commands that wait, and fields of the model's own: `trunkSent` (what the
part has sent on the trunk, log 7), `linkSent` of each slot, and `freeIndex` (how many free values have been used, log
8); `SaqItem.ofReset` is the model's own mark too (log 41). `resetScope` is `some` while a RESET PART is in progress
and marks the slots that were not EMPTY when it began (R172). -/
structure State where
  pending       : List Instr
  slots         : PerSlot Slot
  head          : Option IngressHead
  trunkUp       : Bool
  windowStaging : Vector Window 16
  windowActive  : Vector Window 16
  slotBus       : PerSlot (BitVec 8)
  saq           : List SaqItem
  lastServed    : Source
  time          : Timebase
  health        : HealthMonitor
  kill          : Bool
  railA         : Rail
  railB         : Rail
  sequence      : BitVec 16
  notices       : Notices
  waitingAnswer : Option MgtAnswer
  presenting    : Option Presented
  mailbox       : Mailbox
  resetScope    : Option (PerSlot Bool)
  counters      : PartCounters
  trunkSent     : List Transaction
  freeIndex     : Nat
deriving DecidableEq, Repr

/-- The part right after power-on reset, with the input levels it reads then (R99, R126, R134, and the power-on value
each chapter gives its state). -/
def State.powerOn (pins : PowerOnPins) : State :=
  { pending := []
    slots :=
      { s0 := Slot.powerOn pins.straps.s0 pins.present.s0 pins.pwrgd.s0
        s1 := Slot.powerOn pins.straps.s1 pins.present.s1 pins.pwrgd.s1
        s2 := Slot.powerOn pins.straps.s2 pins.present.s2 pins.pwrgd.s2
        s3 := Slot.powerOn pins.straps.s3 pins.present.s3 pins.pwrgd.s3 }
    head := none
    trunkUp := pins.trunkUp
    windowStaging := defaultWindows
    windowActive := defaultWindows
    slotBus := PerSlot.all 0
    saq := []
    lastServed := .mgt
    time := Timebase.default
    health := HealthMonitor.default
    kill := pins.kill
    railA := Rail.free
    railB := Rail.free
    sequence := 0
    notices := Notices.default
    waitingAnswer := none
    presenting := none
    mailbox := Mailbox.default
    resetScope := none
    counters := PartCounters.zero
    trunkSent := []
    freeIndex := 0 }

/-- The machine right after reset, with the input levels of `PowerOnPins.default`. -/
def State.reset : State := State.powerOn PowerOnPins.default

end Sys2Proof.Machine
end

