-- ==== Sys2Proof/Machine/Flags.lean ====
section
/-! DEFINITION. Codes, status dword, cause set, notice summary: every coded field of the layouts of chapter 10 that more
than one command uses. -/

namespace Sys2Proof.Machine

/-- The number of a result code (R171). -/
def Result.number : Result → Nat
  | .ok => 0
  | .clamped => 1
  | .deferred => 2
  | .unknownCommand => 3
  | .badSlot => 4
  | .badIndex => 5
  | .wrongState => 6
  | .planInvalid => 7

/-- OK, or CLAMPED when a value was brought into range (R171). -/
def okOrClamped (changed : Bool) : Result := if changed then .clamped else .ok

/-- The code of a mailbox state (R179). -/
def MailboxState.number : MailboxState → Nat
  | .idle => 0
  | .busy => 1
  | .done => 2

/-- The status dword at 184h (R179). -/
def Mailbox.status (m : Mailbox) : Dword :=
  place 0 2 m.state.number ||| place 8 8 m.result.number ||| placeBit 16 m.goLost ||| place 24 8 m.code.toNat

/-- The bit of a trip cause in the cause set (10 section 10.6). -/
def TripCause.number : TripCause → Nat
  | .deadline => 0
  | .stall => 1
  | .linkDown => 2
  | .linkErrors => 3
  | .strayAnswers => 4
  | .powerLoss => 5
  | .external => 6
  | .commanded => 7

/-- The cause set that holds one cause. -/
def TripCause.mask (c : TripCause) : CauseSet := BitVec.ofNat 8 (2 ^ c.number)

/-- Whether a set holds a cause. -/
def CauseSet.has (set : CauseSet) (c : TripCause) : Bool := set.getLsbD c.number

/-- A set with a cause added; adding a member leaves it as it is (R77). -/
def CauseSet.add (set : CauseSet) (c : TripCause) : CauseSet := set ||| c.mask

/-- The code of a first cause (R178). -/
def FirstCause.number : FirstCause → Nat
  | .trip c => c.number
  | .removal => 8
  | .admission => 9

/-- The code of a level, NONE included (10 section 10.6). -/
def levelNumber : Option Level → Nat
  | none => 0
  | some .function => 1
  | some .slot => 2
  | some .power => 3

/-- The place of a level on the ladder FUNCTION, SLOT, POWER (R103). -/
def Level.rank : Level → Nat
  | .function => 1
  | .slot => 2
  | .power => 3

/-- The code of a slot state (R177). -/
def SlotState.number : SlotState → Nat
  | .empty => 0
  | .offline => 1
  | .online => 2
  | .draining => 3
  | .fenced => 4
  | .recovering => 5
  | .probation => 6
  | .retired => 7

/-- The code of a phase (R177). -/
def phaseNumber : Option Phase → Nat
  | none => 0
  | some .functionReset => 1
  | some .resetAssert => 2
  | some .railWait => 3
  | some .powerOff => 4
  | some .powerOn => 5
  | some .resetRelease => 6
  | some .linkWait => 7
  | some .settle => 8
  | some .restoring => 9

/-- The code of an outcome (R178). -/
def IncidentOutcome.number : IncidentOutcome → Nat
  | .none => 0
  | .pending => 1
  | .recovered => 2
  | .retired => 3
  | .failed => 4
  | .aborted => 5
  | .removed => 6

/-- The code of a state at trip (R178). -/
def TripState.number : TripState → Nat
  | .online => 0
  | .probation => 1
  | .offline => 2

/-- The summary in the layout of R179: slot bits 0 to 3, KILL-change bit 4. -/
def Summary.toDword (m : Summary) : Dword :=
  placeBit 0 m.slots.s0 ||| placeBit 1 m.slots.s1 ||| placeBit 2 m.slots.s2 ||| placeBit 3 m.slots.s3 |||
  placeBit 4 m.killChange

/-- The summary is clear when every bit is clear (R162). -/
def Summary.isClear (m : Summary) : Bool :=
  !(m.slots.s0 || m.slots.s1 || m.slots.s2 || m.slots.s3 || m.killChange)

/-- The summary after ACK NOTICES: the bits a dword names are cleared, the others stand (R164, R179). -/
def Summary.acknowledge (m : Summary) (d : Dword) : Summary :=
  { slots :=
      { s0 := m.slots.s0 && !bit d 0
        s1 := m.slots.s1 && !bit d 1
        s2 := m.slots.s2 && !bit d 2
        s3 := m.slots.s3 && !bit d 3 }
    killChange := m.killChange && !bit d 4 }

/-- The value of one level. -/
def PerLevel.get (v : PerLevel) : Level → Nat
  | .function => v.function
  | .slot => v.slot
  | .power => v.power

/-- `v` with the value of one level replaced. -/
def PerLevel.set (v : PerLevel) (l : Level) (n : Nat) : PerLevel :=
  match l with
  | .function => { v with function := n }
  | .slot => { v with slot := n }
  | .power => { v with power := n }

/-- Every count lowered to the given limits where it stands above them (R102). -/
def PerLevel.lowerTo (v limit : PerLevel) : PerLevel :=
  { function := min v.function limit.function, slot := min v.slot limit.slot, power := min v.power limit.power }

/-- A slot is serving, and its gates are open, in ONLINE and PROBATION and in no other state (R81). -/
def SlotState.serving : SlotState → Bool
  | .online => true
  | .probation => true
  | .empty => false
  | .offline => false
  | .draining => false
  | .fenced => false
  | .recovering => false
  | .retired => false

end Sys2Proof.Machine
end

