-- ==== Sys2Proof/Machine/Ops.lean ====
section
/-! DEFINITION. The shared operations on the slots, the Outstanding Request Table, the Synthetic Answer Queue, the
incident records, the counters and the notice. A function on `Slot` changes that slot alone; a function on `State`
says in its text which part-wide fields it changes besides. -/

namespace Sys2Proof.Machine

/-! ### Slots -/

/-- One slot. -/
def State.slot (s : State) (i : SlotId) : Slot := s.slots.get i

/-- The state with one slot changed. -/
def State.modSlot (s : State) (i : SlotId) (f : Slot → Slot) : State := { s with slots := s.slots.modify i f }

/-- The slot is ONLINE or PROBATION: its gates are open (R81). -/
def Slot.serving (p : Slot) : Bool := p.seq.state.serving

/-! ### Transactions (R1, R2) -/

/-- Whether a transaction needs an answer (R1). -/
def nonPosted : Transaction → Bool
  | .memRead _ _ _ _ => true
  | .cfgRead _ _ _ _ => true
  | .cfgWrite _ _ _ _ _ _ => true
  | .memWrite _ _ _ _ => false
  | .message _ _ => false
  | .answer _ _ _ _ _ _ => false

/-- Whether a transaction is a request (R1). -/
def isRequest : Transaction → Bool
  | .memRead _ _ _ _ => true
  | .memWrite _ _ _ _ => true
  | .cfgRead _ _ _ _ => true
  | .cfgWrite _ _ _ _ _ _ => true
  | .message _ _ => false
  | .answer _ _ _ _ _ _ => false

/-- Whether a transaction is an answer. -/
def isAnswer : Transaction → Bool
  | .answer _ _ _ _ _ _ => true
  | .memRead _ _ _ _ => false
  | .memWrite _ _ _ _ => false
  | .cfgRead _ _ _ _ => false
  | .cfgWrite _ _ _ _ _ _ => false
  | .message _ _ => false

/-- The requester and tag of a non-posted request, its key (R1). -/
def keyOf : Transaction → Option (Requester × Tag)
  | .memRead r t _ _ => some (r, t)
  | .cfgRead r t _ _ => some (r, t)
  | .cfgWrite r t _ _ _ _ => some (r, t)
  | .memWrite _ _ _ _ => none
  | .message _ _ => none
  | .answer _ _ _ _ _ _ => none

/-- The bytes owed on a non-posted request: 4 × length for a MEMORY READ, 4 for a CONFIG READ, 0 for a CONFIG WRITE
(R13, R23, R92). -/
def owedBytes : Transaction → Nat
  | .memRead _ _ _ len => 4 * len
  | .cfgRead _ _ _ _ => 4
  | .cfgWrite _ _ _ _ _ _ => 0
  | .memWrite _ _ _ _ => 0
  | .message _ _ => 0
  | .answer _ _ _ _ _ _ => 0

/-- Whether a request reads, so that a ONES answer to it carries data (R90). -/
def readsData : Transaction → Bool
  | .memRead _ _ _ _ => true
  | .cfgRead _ _ _ _ => true
  | .cfgWrite _ _ _ _ _ _ => false
  | .memWrite _ _ _ _ => false
  | .message _ _ => false
  | .answer _ _ _ _ _ _ => false

/-- A transaction as it goes on a slot link: a configuration request loses its target number (R4, R16). -/
def toLink : Transaction → LinkTransaction
  | .memRead r t a len => .memRead r t a len
  | .memWrite r a len data => .memWrite r a len data
  | .cfgRead r t _ off => .cfgRead r t off
  | .cfgWrite r t _ off be data => .cfgWrite r t off be data
  | .message dir target => .message dir target
  | .answer r t st rem cnt data => .answer r t st rem cnt data

/-! ### Counters (R160) and the counts of a PENDING incident (R157) -/

/-- Change the slot's current record if it is PENDING (R157). -/
def Slot.notePending (p : Slot) (f : Incident → Incident) : Slot :=
  if p.current.outcome = .pending then { p with current := f p.current } else p

/-- One more dropped card request, in the slot's counter and in its PENDING incident (R89). -/
def Slot.countDroppedCardRequests (p : Slot) (k : Nat) : Slot :=
  { p with counters := { p.counters with
      droppedCardRequests := satAdd Config.counterLimit p.counters.droppedCardRequests k } }.notePending
    fun r => { r with dropped := satAdd Config.incidentLimit r.dropped k }

/-- `k` more writes dropped by the containment path (R89); the incident record does not count them. -/
def Slot.countDroppedWrites (p : Slot) (k : Nat) : Slot :=
  { p with counters := { p.counters with
      droppedWrites := satAdd Config.counterLimit p.counters.droppedWrites k } }

/-- One more synthetic answer of the slot, in its counter and in its PENDING incident (R95). -/
def Slot.countSynthetic (p : Slot) : Slot :=
  { p with counters := { p.counters with
      synthetic := satAdd Config.counterLimit p.counters.synthetic 1 } }.notePending
    fun r => { r with synthetic := satAdd Config.incidentLimit r.synthetic 1 }

/-- One more stale answer, in the slot's counter and in its PENDING incident (R34). -/
def Slot.countStale (p : Slot) : Slot :=
  { p with counters := { p.counters with
      stale := satAdd Config.counterLimit p.counters.stale 1 } }.notePending
    fun r => { r with stale := satAdd Config.incidentLimit r.stale 1 }

/-- One more stray answer; the pending stray count too while the slot is serving (R35, R68). -/
def Slot.countStray (p : Slot) : Slot :=
  { p with
    counters := { p.counters with stray := satAdd Config.counterLimit p.counters.stray 1 }
    detect := if p.serving then
        { p.detect with pendingStrays := satAdd Config.accumulatorLimit p.detect.pendingStrays 1 }
      else p.detect }

/-- One more duplicate key (R26). -/
def Slot.countDuplicate (p : Slot) : Slot :=
  { p with counters := { p.counters with
      duplicateKeys := satAdd Config.counterLimit p.counters.duplicateKeys 1 } }

/-- One more trip (R77, R78). -/
def Slot.countTrip (p : Slot) : Slot :=
  { p with counters := { p.counters with trips := satAdd Config.counterLimit p.counters.trips 1 } }

/-- One more unrouted request of the part (R13). -/
def State.countUnrouted (s : State) : State :=
  { s with counters := { s.counters with unrouted := satAdd Config.counterLimit s.counters.unrouted 1 } }

/-- One more rights violation of the part (R13). -/
def State.countRights (s : State) : State :=
  { s with counters := { s.counters with rights := satAdd Config.counterLimit s.counters.rights 1 } }

/-! ### The Outstanding Request Table (chapter 2) -/

/-- The entry is LIVE. -/
def Entry.isLive (e : Entry) : Bool := e.state == .live
/-- The entry is FENCED. -/
def Entry.isFenced (e : Entry) : Bool := e.state == .fenced
/-- The entry is a TOMBSTONE. -/
def Entry.isTombstone (e : Entry) : Bool := e.state == .tombstone
/-- The entry holds this key (R22). -/
def Entry.hasKey (r : Requester) (t : Tag) (e : Entry) : Bool := e.requester == r && e.tag == t
/-- The entry has this entry number (R22). -/
def Entry.hasNumber (n : Nat) (e : Entry) : Bool := e.number == n

/-- The number of entries in LIVE (R24). -/
def liveCount (ort : List Entry) : Nat := ort.countP Entry.isLive

/-- The slot's LIVE count. -/
def Slot.liveCount (p : Slot) : Nat := Machine.liveCount p.traffic.ort

/-- The class of a request (R23): MEM for a MEMORY READ, CFG for a configuration request. -/
def EntryRequest.cls : EntryRequest → RequestClass
  | .memRead _ _ => .mem
  | .cfgRead _ => .cfg
  | .cfgWrite _ _ _ => .cfg

/-- The length of a request in dwords, 1 for a configuration request (R23). -/
def EntryRequest.length : EntryRequest → Nat
  | .memRead _ len => len
  | .cfgRead _ => 1
  | .cfgWrite _ _ _ => 1

/-- Whether a request of the ORT reads (R90). -/
def EntryRequest.reads : EntryRequest → Bool
  | .memRead _ _ => true
  | .cfgRead _ => true
  | .cfgWrite _ _ _ => false

/-- The fields of R23 that a non-posted request brings to its entry: key, kind, address or offset, length and write
record. -/
def entryRequestOf : Transaction → Option (Requester × Tag × EntryRequest)
  | .memRead r t a len => some (r, t, .memRead a len)
  | .cfgRead r t _ off => some (r, t, .cfgRead off)
  | .cfgWrite r t _ off be data => some (r, t, .cfgWrite off be data)
  | .memWrite _ _ _ _ => none
  | .message _ _ => none
  | .answer _ _ _ _ _ _ => none

/-- The lowest entry number no occupied entry holds (R22). -/
def freeNumber (ort : List Entry) : Nat :=
  ((List.range Config.ortEntries).find? fun n => ort.all fun e => e.number != n).getD 0

/-- An entry goes from LIVE to FENCED; an entry in another state is unchanged. -/
def Entry.fence (e : Entry) : Entry := if e.isLive then { e with state := .fenced } else e

/-- An entry in FENCED or ANSWERING has its keep-key flag set to no (R41, R42). -/
def Entry.forgetKey (e : Entry) : Entry :=
  if e.state = .fenced ∨ e.state = .answering then { e with keepKey := false } else e

/-- Fence-all: every LIVE entry becomes FENCED, in list order (R40). -/
def Slot.fenceAll (p : Slot) : Slot :=
  { p with traffic := { p.traffic with ort := p.traffic.ort.map Entry.fence } }

/-- Tombstone clear: every TOMBSTONE is freed, every FENCED and ANSWERING entry loses keep-key (R41). -/
def Slot.tombstoneClear (p : Slot) : Slot :=
  { p with traffic := { p.traffic with
      ort := (p.traffic.ort.filter fun e => !e.isTombstone).map Entry.forgetKey } }

/-- Removal at the ORT: LIVE entries are fenced, FENCED and ANSWERING entries lose keep-key, TOMBSTONE entries are
freed (R42). -/
def Slot.ortRemoval (p : Slot) : Slot := p.fenceAll.tombstoneClear

/-! ### The Stall Monitor (R63, R64) -/

/-- The slot has pending work: a Send Queue entry or a LIVE entry (R63). -/
def Slot.pendingWork (p : Slot) : Bool := !p.traffic.sendQueue.isEmpty || p.traffic.ort.any Entry.isLive

/-- The monitor is counting: serving, with pending work, the upstream stage empty (R63). -/
def Slot.stallCounting (p : Slot) : Bool := p.serving && p.pendingWork && p.traffic.stage.isNone

/-- Progress, or entry into a serving state, reloads the count with STALL_LIMIT (R64). -/
def Slot.reloadStall (p : Slot) : Slot :=
  { p with detect := { p.detect with stallCount := p.detect.monitor.stallLimit } }

/-! ### The Synthetic Answer Queue (chapter 5) -/

/-- The SAQ has room for an item (R91). -/
def State.saqRoom (s : State) : Bool := decide (s.saq.length < Config.saqItems)

/-- An item joins the SAQ at its tail (R91). -/
def State.appendSaq (s : State) (item : SaqItem) : State := { s with saq := s.saq ++ [item] }

/-- A RESET PART in progress waits for what the slot owes: it is one of those that were not EMPTY when the reset began
(R172). -/
def State.resetWaitsFor (s : State) (i : SlotId) : Bool :=
  match s.resetScope with
  | some scope => scope.get i
  | none => false

/-- The item for a slot's FENCED entry or Send Queue head joins the SAQ, marked where a RESET PART in progress waits for
it (R38, R87, R97). -/
def State.appendOwed (s : State) (i : SlotId) (item : SaqItem) : State :=
  s.appendSaq { item with ofReset := s.resetWaitsFor i }

/-- A RESET PART in progress appended the item itself and the SAQ has room for more: R93 meets the claims that are left at
once, and R97 and R172 have the item sent after them (log 41). -/
def State.resetHolds (s : State) (item : SaqItem) : Bool := s.resetScope.isSome && item.ofReset && s.saqRoom

/-- The slot's answer style now: the plan record's STYLE, but ABORT in EMPTY (R90). -/
def Slot.answerStyle (p : Slot) : AnswerStyle := if p.seq.state = .empty then .abort else p.seq.plan.style

/-- Status and data style of an item in a style, for a request that reads or does not (R90). -/
def AnswerStyle.contents (style : AnswerStyle) (reads : Bool) : Status × DataStyle :=
  match style with
  | .ones => (.ok, if reads then .ones else .none)
  | .abort => (.abort, .none)

/-- The item the containment path makes for a non-posted request, in the slot's style (R92). -/
def Slot.containmentItem (p : Slot) (tx : Transaction) : Option SaqItem :=
  (keyOf tx).map fun key =>
    { requester := key.1
      tag := key.2
      status := (p.answerStyle.contents (readsData tx)).1
      remaining := owedBytes tx
      style := (p.answerStyle.contents (readsData tx)).2
      owner := none }

/-- The item for an unrouted or refused request or a duplicate key: UNSUPPORTED, no data, no owner (R13, R26). -/
def unsupportedItem (tx : Transaction) : Option SaqItem :=
  (keyOf tx).map fun key =>
    { requester := key.1
      tag := key.2
      status := .unsupported
      remaining := owedBytes tx
      style := .none
      owner := none }

/-- The item for a FENCED entry (R38, R92). -/
def Slot.entryItem (p : Slot) (i : SlotId) (e : Entry) : SaqItem :=
  { requester := e.requester
    tag := e.tag
    status := (p.answerStyle.contents e.request.reads).1
    remaining := e.remaining
    style := (p.answerStyle.contents e.request.reads).2
    owner := some { slot := i, entry := e.number } }

/-- The answer made from an item when SYN is granted (R94). -/
def SaqItem.toAnswer (it : SaqItem) : Transaction :=
  let count := if it.style = .ones then it.remaining else 0
  .answer it.requester it.tag it.status it.remaining count (List.replicate count 0xFF)

/-! ### Containment of the Send Queue (R87) -/

/-- Posted entries at the head of a Send Queue held by the containment path are dropped and counted, up to the first
non-posted entry (R87). -/
def Slot.dropPosted (p : Slot) : Slot :=
  { p with traffic := { p.traffic with
      sendQueue := p.traffic.sendQueue.dropWhile fun tx => !nonPosted tx } }.countDroppedWrites
    (p.traffic.sendQueue.takeWhile fun tx => !nonPosted tx).length

/-- A card request in the upstream stage at gate closing is discarded and counted; an answer stays (R19). -/
def Slot.closeStage (p : Slot) : Slot :=
  match p.traffic.stage with
  | some tx =>
    if isAnswer tx then p
    else { p with traffic := { p.traffic with stage := none } }.countDroppedCardRequests 1
  | none => p

/-- The closing of both gates (R81): the stage's card request is dropped, the Send Queue passes to the containment
path, and a STALL trip not yet taken is no longer due. -/
def Slot.closeGates (p : Slot) : Slot :=
  { p.closeStage.dropPosted with
    detect := { p.closeStage.dropPosted.detect with stallDue := false } }

/-! ### Notices (R162 to R169) -/

/-- The Management Function presents its waiting answer, or else its unsent notice, whenever it presents nothing
(R169). -/
def State.present (s : State) : State :=
  match s.presenting with
  | some _ => s
  | none =>
    if s.waitingAnswer.isSome then { s with presenting := some .answer }
    else if s.notices.unsent then { s with presenting := some .notice }
    else s

/-- Notices are enabled and an address is set (R162, R165). -/
def Notices.armed (n : Notices) : Bool := n.enabled && n.address != 0

/-- A notice is queued when notices are enabled and an address is set; one already unsent satisfies it (R162, R163). -/
def State.queueNotice (s : State) : State :=
  if s.notices.armed then { s with notices := { s.notices with unsent := true } }.present else s

/-- An unsent notice is withdrawn, and ceases to be presented (R163, R169). -/
def State.withdrawNotice (s : State) : State :=
  { s with
    notices := { s.notices with unsent := false }
    presenting := if s.presenting = some Presented.notice then none else s.presenting }.present

/-- Set bits of the summary; an event that finds the summary clear queues a notice (R162). -/
def State.raiseSummary (s : State) (f : Summary → Summary) : State :=
  let raised := { s with notices := { s.notices with summary := f s.notices.summary } }
  if s.notices.summary.isClear then raised.queueNotice else raised

/-- Set a slot's bit of the summary (R162). -/
def State.raiseSlot (s : State) (i : SlotId) : State :=
  s.raiseSummary fun m => { m with slots := m.slots.set i true }

/-- Set the KILL-change bit of the summary (R162). -/
def State.raiseKill (s : State) : State := s.raiseSummary fun m => { m with killChange := true }

/-! ### Incident records (chapter 9) -/

/-- The target of the snapshot of an entry (R45). -/
def EntryRequest.target : EntryRequest → SnapshotTarget
  | .memRead a _ => .memRead a
  | .cfgRead off => .cfgRead off
  | .cfgWrite off _ _ => .cfgWrite off

/-- The oldest-entry snapshot: the oldest LIVE entry in list order, its age saturated at 65535 (R45). -/
def oldestSnapshot (now : Ticks) (ort : List Entry) : Option Snapshot :=
  (ort.find? Entry.isLive).map fun e =>
    { target := e.request.target
      requester := e.requester
      tag := e.tag
      age := min Config.latencyLimit (ticksSince now e.issueTime) }

/-- What the ORT and the Deadline Unit give the record of a trip, from the slot as it stood when the trip's cause was
taken, an expiring entry still LIVE (R45, R60). -/
def Slot.tripView (p : Slot) (now : Ticks) : TripView :=
  { liveCount := p.liveCount
    snapshot := oldestSnapshot now p.traffic.ort
    memEst := p.deadlines.memEst.est16 / 16
    cfgEst := p.deadlines.cfgEst.est16 / 16 }

/-- An incident opens (R155): the sequence counter advances, current becomes previous, the record is filled (R156),
and the slot's summary bit is set. -/
def State.openIncident (s : State) (i : SlotId) (kind : IncidentKind) (first : FirstCause) (further : CauseSet)
    (tripState : TripState) (view : TripView) : State :=
  let number := s.sequence + 1
  let record : Incident :=
    { sequence := number, kind := kind, slot := i, firstCause := first, further := further, tripState := tripState,
      openTime := s.time.now, view := view, highest := none, attempts := PerLevel.all 0, synthetic := 0, dropped := 0,
      stale := 0, outcome := .pending, closeTime := none }
  ({ s with sequence := number }.modSlot i fun p => { p with previous := p.current, current := record }).raiseSlot i

/-- An incident closes (R158): a PENDING current record takes its outcome and close time and the slot's summary bit
is set. The sequencer's attempt counts are cleared (R103). A record that is not PENDING is left as it is. -/
def State.closeIncident (s : State) (i : SlotId) (outcome : IncidentOutcome) : State :=
  let cleared := s.modSlot i fun p => { p with seq := { p.seq with attempts := PerLevel.all 0 } }
  if (s.slot i).current.outcome = .pending then
    (cleared.modSlot i fun p =>
      { p with current := { p.current with outcome := outcome, closeTime := some s.time.now } }).raiseSlot i
  else cleared

/-- A cause joins the further causes of a PENDING incident (R77, R79). -/
def Slot.addFurther (p : Slot) (c : TripCause) : Slot := p.notePending fun r => { r with further := r.further.add c }

/-- The sequencer's attempt counts change, and the PENDING record's copy follows (R157). -/
def Slot.setAttempts (p : Slot) (a : PerLevel) : Slot :=
  { p with seq := { p.seq with attempts := a } }.notePending fun r => { r with attempts := a }

end Sys2Proof.Machine
end

