-- ==== Sys2Proof/Machine/Scripts.lean ====
section
/-! DEFINITION. The Script Store and the Restore Executor of one slot (chapter 8), as far as they change that slot
alone. What the executor reports to the sequencer is in Machine/Sequencer.lean. -/

namespace Sys2Proof.Machine

/-! ### The Script Store (R139 to R145) -/

/-- The steps inside the staging script. -/
def ScriptStore.stagingSteps (sc : ScriptStore) : List Step := sc.staging.toList.take sc.stagingLength

/-- A commit: the active copy becomes a copy of the staging script, and no commit is pending (R143). -/
def ScriptStore.commit (sc : ScriptStore) : ScriptStore :=
  { sc with active := sc.stagingSteps, commitPending := false }

/-- RESTORING ends: a deferred commit is performed (R111, R143). -/
def Slot.leaveRestoring (p : Slot) : Slot :=
  if p.seq.phase = some .restoring ∧ p.script.commitPending = true then { p with script := p.script.commit } else p

/-- The staging length is set; every position from the new length upward becomes PAUSE 1 when the length is lowered
(R142, log 21). -/
def ScriptStore.setLength (sc : ScriptStore) (n : Nat) : ScriptStore :=
  { sc with
    staging := if n < sc.stagingLength then sc.staging.mapIdx fun k st => if k < n then st else Step.idle
      else sc.staging
    stagingLength := n }

/-- A WRITE step at this offset (R145). -/
def Step.writesAt (off : Offset) : Step → Bool
  | .write o _ _ => o == off
  | .verify _ _ _ => false
  | .poll _ _ _ _ => false
  | .pause _ => false

/-- A captured write is merged into a WRITE step byte by byte; another step is left as it is (R145). -/
def Step.mergeWrite (be : ByteEnables) (data : Dword) : Step → Step
  | .write o e v => .write o (e ||| be) (mergeBytes be v data)
  | .verify o m x => .verify o m x
  | .poll o m x l => .poll o m x l
  | .pause u => .pause u

/-- A host CONFIG WRITE that the card accepted is delivered for capture (R145). -/
def ScriptStore.captureWrite (sc : ScriptStore) (off : Offset) (be : ByteEnables) (data : Dword) : ScriptStore :=
  if !sc.capture then sc
  else if be = 0 then sc
  else
    match sc.stagingSteps.findIdx? (Step.writesAt off) with
    | some k => { sc with staging := sc.staging.setIfInBounds k ((sc.staging.toList.getD k Step.idle).mergeWrite be data) }
    | none =>
      if sc.stagingLength < Config.scriptSteps then
        { sc with
          staging := sc.staging.setIfInBounds sc.stagingLength (.write off be data)
          stagingLength := sc.stagingLength + 1 }
      else { sc with overflow := true }

/-! ### The Restore Executor (R146 to R153) -/

/-- The access of a step, none for a PAUSE (R140). -/
def Step.access : Step → Option AccessRequest
  | .write off be v => some (.write off be v)
  | .verify off _ _ => some (.read off)
  | .poll off _ _ _ => some (.read off)
  | .pause _ => none

/-- The step the executor runs now. -/
def Slot.currentStep (p : Slot) : Option Step := p.exec.step.bind fun k => p.script.active[k]?

/-- The access the slot's phase or step sends: the reset write of the sample, with all byte enables, in FUNCTION_RESET
(R105), the step's access in RESTORING (R149, R150). -/
def Slot.phaseAccess (p : Slot) : Option AccessRequest :=
  match p.seq.phase with
  | some .functionReset => p.seq.sample.functionReset.map fun w => .write w.offset 0xF w.data
  | some .restoring => p.currentStep.bind Step.access
  | _ => none

/-- An access is issued: it takes the next tag, which advances, and is in flight from this event (R146). While HELD is
set it is withheld instead (R104, R152). -/
def Slot.issue (p : Slot) : Slot :=
  match p.phaseAccess with
  | none => p
  | some a =>
    if p.seq.held then { p with exec := { p.exec with withheld := true } }
    else
      { p with exec := { p.exec with
          inFlight := some { tag := p.exec.nextTag, request := a, onLink := false }
          withheld := false
          nextTag := p.exec.nextTag + 1 } }

/-- The executor stops: the access in flight is abandoned, its timers discarded, the current step forgotten (R153).
The next tag stands (R146). -/
def Slot.stopExecutor (p : Slot) : Slot :=
  { p with exec := { p.exec with
      inFlight := none, withheld := false, step := none, stepTimer := none, reissueTimer := none,
      intervalTimer := none, limitTimer := none, pauseTimer := none } }

/-- The timer a step loads when it starts (R148): STEP_LIMIT of the sample for WRITE and VERIFY, the step's limit for
POLL, the step's units for PAUSE. -/
def Executor.loadStep (x : Executor) (k : Nat) (stepLimit : Nat) (st : Step) : Executor :=
  let cleared : Executor :=
    { x with
      inFlight := none, withheld := false, step := some k, stepTimer := none, reissueTimer := none,
      intervalTimer := none, limitTimer := none, pauseTimer := none }
  match st with
  | .write _ _ _ => { cleared with stepTimer := some (units stepLimit) }
  | .verify _ _ _ => { cleared with stepTimer := some (units stepLimit) }
  | .poll _ _ _ limit => { cleared with limitTimer := some (units limit) }
  | .pause n => { cleared with pauseTimer := some (units n) }

/-- The step at a position starts: its timer is loaded and its access, if it has one, issued (R148). -/
def Slot.startStep (p : Slot) (k : Nat) (st : Step) : Slot :=
  { p with exec := p.exec.loadStep k p.seq.sample.stepLimit st }.issue

end Sys2Proof.Machine
end

