-- ==== Sys2Proof/Machine/Sequencer.lean ====
section
/-! DEFINITION. The Recovery Sequencer and the Rail Arbiter: phases, recovery and admission, failure, retirement,
abort, the trip event and the end of DRAINING (chapters 4 to 7). -/

namespace Sys2Proof.Machine

/-! ### Lines and sequence of one slot -/

/-- SLOT-RESET is asserted (R127). -/
def Slot.assertReset (p : Slot) : Slot := { p with lines := { p.lines with slotReset := true } }

/-- SLOT-RESET is released (R106). -/
def Slot.releaseReset (p : Slot) : Slot := { p with lines := { p.lines with slotReset := false } }

/-- POWER-ENABLE is turned on or off; without power control it is held off at all times (R128). -/
def Slot.setPower (p : Slot) (on : Bool) : Slot :=
  { p with lines := { p.lines with powerEnable := on && p.lines.powerControl } }

/-- Whatever sequence is in progress stops: RESTORING ends with its deferred commit, the executor stops, and every
timer of the slot is discarded (R112, R118, R123, R124, R125, R153). The slot has no phase afterwards. -/
def Slot.stopSequence (p : Slot) : Slot :=
  let q := p.leaveRestoring.stopExecutor
  { q with seq := { q.seq with
      phase := none, drainTimer := none, phaseTimer := none, reissueTimer := none, probationTimer := none,
      pwrgdSeen := false } }

/-- The slot takes a state in which no level is in progress (R99). -/
def Slot.setState (p : Slot) (st : SlotState) : Slot := { p with seq := { p.seq with state := st, level := none } }

/-- HELD is cleared (R116). -/
def Slot.clearHeld (p : Slot) : Slot := { p with seq := { p.seq with held := false } }

/-- A phase is entered with its timer (R104). -/
def Slot.enterPhase (p : Slot) (ph : Phase) (timer : UnitTimer) : Slot :=
  { p with seq := { p.seq with phase := some ph, phaseTimer := timer, reissueTimer := none, pwrgdSeen := false } }

/-- FUNCTION_RESET is entered with the link up: the timer is loaded and the reset write issued (R105). -/
def Slot.enterFunctionReset (p : Slot) : Slot :=
  (p.stopExecutor.enterPhase .functionReset (some (units p.seq.sample.stepLimit))).issue

/-- RESET_ASSERT is entered (R106). -/
def Slot.enterResetAssert (p : Slot) : Slot :=
  (p.assertReset.tombstoneClear).enterPhase .resetAssert (some (units p.seq.sample.assert))

/-- POWER_OFF is entered, the rail's grant given (R109). -/
def Slot.enterPowerOff (p : Slot) : Slot :=
  ((p.assertReset.setPower false).tombstoneClear).enterPhase .powerOff (some (units p.seq.sample.off))

/-- The second part of POWER_ON begins: PWRGD is asserted, ON_SETTLE is loaded (R110). -/
def Slot.startOnSettle (p : Slot) : Slot :=
  { p with seq := { p.seq with phaseTimer := some (units p.seq.sample.onSettle), pwrgdSeen := true } }

/-- POWER_ON is entered (R110). -/
def Slot.enterPowerOn (p : Slot) : Slot :=
  let q := (p.setPower true).enterPhase .powerOn (some (units p.seq.sample.pwrgdLimit))
  if q.lines.pwrgd then q.startOnSettle else q

/-- A level is available under the sample: FUNCTION with a reset write, SLOT always, POWER with power control (R100). -/
def Slot.available (p : Slot) : Level → Bool
  | .function => p.seq.sample.functionReset.isSome
  | .slot => true
  | .power => p.lines.powerControl

/-- The level called for: the lowest one not below START LEVEL, available, with attempts left (R103). -/
def Slot.levelCalledFor (p : Slot) : Option Level :=
  [Level.function, Level.slot, Level.power].find? fun l =>
    decide (p.seq.sample.startLevel.rank ≤ l.rank) && p.available l &&
      decide (p.seq.attempts.get l < p.seq.sample.attempts.get l)

/-- The plan sample is taken; attempt counts above its ATTEMPTS are lowered to them, the record's copy too (R102). -/
def Slot.takeSample (p : Slot) : Slot :=
  { p with seq := { p.seq with sample := p.seq.plan } }.setAttempts (p.seq.attempts.lowerTo p.seq.plan.attempts)

/-- The incident's highest level reached is raised to a level where it stands below (R103). -/
def Slot.raiseHighest (p : Slot) (l : Level) : Slot :=
  p.notePending fun r =>
    { r with highest := if levelNumber r.highest < l.rank then some l else r.highest }

/-- An attempt at a level begins: RECOVERING, with that level as current level (R103). -/
def Slot.beginLevel (p : Slot) (l : Level) : Slot :=
  { p with seq := { p.seq with state := .recovering, level := some l } }.raiseHighest l

/-- One more failed attempt at the current level (R112, R78). -/
def Slot.countAttempt (p : Slot) : Slot :=
  match p.seq.level with
  | some l => p.setAttempts (p.seq.attempts.set l (satAdd Config.attemptLimit (p.seq.attempts.get l) 1))
  | none => p

/-! ### The Rail Arbiter (R129 to R132) -/

/-- What the arbiter holds for a rail. -/
def State.rail (s : State) : RailId → Rail
  | .a => s.railA
  | .b => s.railB

/-- The state with a rail's holder and waiting request replaced. -/
def State.setRail (s : State) (r : RailId) (v : Rail) : State :=
  match r with
  | .a => { s with railA := v }
  | .b => { s with railB := v }

/-- RAIL_WAIT is entered and the grant requested: given at once on a free rail, which enters POWER_OFF; else the
request waits (R109, R130). -/
def State.enterRailWait (s : State) (i : SlotId) : State :=
  let w := s.modSlot i fun p => p.enterPhase .railWait none
  match (s.rail i.rail).holder with
  | none => (w.setRail i.rail { s.rail i.rail with holder := some i }).modSlot i Slot.enterPowerOff
  | some _ => w.setRail i.rail { s.rail i.rail with waiting := some i }

/-- The slot gives up its grant, which passes to a waiting partner and starts its POWER_OFF, or withdraws its waiting
request (R131, R132). -/
def State.releaseRail (s : State) (i : SlotId) : State :=
  let r := s.rail i.rail
  if r.holder = some i then
    match r.waiting with
    | some w => (s.setRail i.rail { holder := some w, waiting := none }).modSlot w Slot.enterPowerOff
    | none => s.setRail i.rail { r with holder := none }
  else if r.waiting = some i then s.setRail i.rail { r with waiting := none }
  else s

/-! ### Return to service (R107, R108, R111, R114, R115) -/

/-- The probation timer has run out: ONLINE, HELD cleared, the incident closed RECOVERED (R115). -/
def State.goOnline (s : State) (i : SlotId) : State :=
  (s.modSlot i fun p =>
    (({ p with seq := { p.seq with probationTimer := none } }.setState .online).clearHeld).reloadStall).closeIncident
    i .recovered

/-- PROBATION is entered (R114): the gates open, estimators, accumulators and pending counts are reset, the Stall
Monitor is reloaded, the probation timer is loaded. The current level is kept. -/
def Slot.enterProbation (p : Slot) : Slot :=
  let q := p.stopSequence
  { q with
    seq := { q.seq with state := .probation, probationTimer := some (units q.seq.sample.probation) }
    deadlines := { q.deadlines with memEst := Estimator.zero, cfgEst := Estimator.zero }
    detect := { q.detect with
      pendingErrors := 0, pendingStrays := 0, errAcc := 0, strayAcc := 0, stallDue := false,
      stallCount := q.detect.monitor.stallLimit } }

/-- The last phase of an attempt completes: PROBATION, and ONLINE in the same event when its time is 0 (R114). -/
def State.enterProbation (s : State) (i : SlotId) : State :=
  let t := s.modSlot i Slot.enterProbation
  if (s.slot i).seq.sample.probation = 0 then t.goOnline i else t

/-- RESTORING is entered: the active script runs from position 0, or is passed at once when it is empty (R148). -/
def State.enterRestoring (s : State) (i : SlotId) : State :=
  let t := s.modSlot i fun p => p.enterPhase .restoring none
  match (s.slot i).script.active[0]? with
  | some st => t.modSlot i fun p => p.startStep 0 st
  | none => t.enterProbation i

/-- Whether RESTORING follows SETTLE: RESTORE ON RECOVERY of the sample, RESTORE ON ADMIT for an admission (R103). -/
def Slot.restores (p : Slot) : Bool :=
  match p.current.kind with
  | .fault => p.seq.sample.restoreOnRecovery
  | .admission => p.seq.sample.restoreOnAdmit

/-- SETTLE is complete: RESTORING, or PROBATION directly (R103, R108). -/
def State.settleDone (s : State) (i : SlotId) : State :=
  if (s.slot i).restores then s.enterRestoring i else s.enterProbation i

/-- SETTLE is entered, and ends at once when its time is 0 (R104, R108). -/
def State.enterSettle (s : State) (i : SlotId) : State :=
  let t := s.modSlot i fun p => p.stopExecutor.enterPhase .settle (some (units p.seq.sample.settle))
  if (s.slot i).seq.sample.settle = 0 then t.settleDone i else t

/-- RESET_RELEASE is entered and left: SLOT-RESET is released and LINK_WAIT entered, which ends at once when the link
is up (R106, R107). -/
def State.enterResetRelease (s : State) (i : SlotId) : State :=
  let t := s.modSlot i fun p => p.releaseReset.enterPhase .linkWait (some (units p.seq.sample.linkLimit))
  if (s.slot i).lines.linkUp then t.enterSettle i else t

/-- The executor reports success: RESTORING ends and PROBATION is entered (R111). -/
def State.restoreSucceeds (s : State) (i : SlotId) : State := s.enterProbation i

/-- The current step passes: the next one starts, or the script succeeds (R148). -/
def State.passStep (s : State) (i : SlotId) : State :=
  match (s.slot i).exec.step with
  | none => s
  | some k =>
    match (s.slot i).script.active[k + 1]? with
    | some st => s.modSlot i fun p => p.startStep (k + 1) st
    | none => s.restoreSucceeds i

/-! ### Retirement, failed admission, the ladder (R103, R112, R113, R123) -/

/-- The slot is retired under a retire action (R113). -/
def State.retire (s : State) (i : SlotId) (action : RetireAction) : State :=
  ((s.modSlot i fun p =>
      let q := ((p.stopSequence.setState .retired).clearHeld).assertReset
      match action with
      | .holdReset => q
      | .powerOff => q.setPower false).releaseRail i).closeIncident i .retired

/-- An admission fails: OFFLINE, the card in reset and without power, the incident closed FAILED (R123). -/
def State.failAdmission (s : State) (i : SlotId) : State :=
  ((s.modSlot i fun p =>
      (((p.stopSequence.setState .offline).clearHeld).assertReset).setPower false).releaseRail i).closeIncident
    i .failed

/-- The first phase of a level is entered (R103). -/
def State.enterFirstPhase (s : State) (i : SlotId) : Level → State
  | .function => s.modSlot i Slot.enterFunctionReset
  | .slot => s.modSlot i Slot.enterResetAssert
  | .power => s.enterRailWait i

/-- An attempt at a level begins at its first phase; after a failed attempt SLOT-RESET is asserted first for SLOT and
POWER (R103, R112 step 4). -/
def State.beginAttempt (s : State) (i : SlotId) (l : Level) (afterFailure : Bool) : State :=
  (s.modSlot i fun p =>
    if afterFailure && l != .function then (p.beginLevel l).assertReset else p.beginLevel l).enterFirstPhase i l

/-- FUNCTION attempts that fail at entry because the link is down, each in the same event, until FUNCTION is spent:
its count stands at its ATTEMPTS and the highest level at least at FUNCTION (R105, R112; log 16). -/
def Slot.spendFunction (p : Slot) : Slot :=
  (p.raiseHighest .function).setAttempts (p.seq.attempts.set .function p.seq.sample.attempts.function)

/-- The ladder: the level called for begins, or the slot is retired by the sample's action (R103, R112, R113). -/
def State.climb (s : State) (i : SlotId) (afterFailure : Bool) : State :=
  match (s.slot i).levelCalledFor with
  | none => s.retire i (s.slot i).seq.sample.retireAction
  | some .function =>
    if (s.slot i).lines.linkUp then s.beginAttempt i .function afterFailure
    else
      let t := s.modSlot i Slot.spendFunction
      match (t.slot i).levelCalledFor with
      | none => t.retire i (t.slot i).seq.sample.retireAction
      | some l => t.beginAttempt i l true
  | some l => s.beginAttempt i l afterFailure

/-- Recovery starts from FENCED: a new plan sample, then the ladder (R102, R103). The ladder begins no attempt after a
failure here, at the end of a DRAINING that a trip in PROBATION began either: at POWER with the rail held by the partner
SLOT-RESET stands as it was until the grant. DEDUCED (log 39), unsafe. -/
def State.startRecovery (s : State) (i : SlotId) : State := (s.modSlot i Slot.takeSample).climb i false

/-- The attempt in progress fails (R112), or the admission does (R123). A failure in POWER_ON turns POWER-ENABLE off
and releases the grant (R110). -/
def State.failAttempt (s : State) (i : SlotId) : State :=
  match (s.slot i).current.kind with
  | .admission => s.failAdmission i
  | .fault =>
    ((s.modSlot i fun p =>
        let q := p.stopSequence.countAttempt
        if p.seq.phase = some .powerOn then q.setPower false else q).releaseRail i).climb i true

/-! ### Admission (R119, R122) -/

/-- The bring-up level of an admission: POWER if the slot has power control and its POWER-ENABLE is off, else SLOT
(R122). -/
def Slot.bringUpLevel (p : Slot) : Level :=
  if p.lines.powerControl && !p.lines.powerEnable then .power else .slot

/-- The bring-up of an admission begins at the first phase of its level (R122). -/
def State.beginAdmission (s : State) (i : SlotId) : State := s.beginAttempt i (s.slot i).bringUpLevel false

/-! ### DRAINING and the trip event (R77 to R85) -/

/-- The automatic-cause test: the first cause is in AUTO CAUSES of the plan record, EXTERNAL never, and KILL is
deasserted (R85). -/
def State.automatic (s : State) (i : SlotId) : Bool :=
  match (s.slot i).current.firstCause with
  | .trip .external => false
  | .trip c => (s.slot i).seq.plan.autoCauses.has c && !s.kill
  | .removal => false
  | .admission => false

/-- DRAINING ends (R84): fence-all, then OFFLINE for an admission, else FENCED with the automatic-cause test.
Where the test passes after a trip in PROBATION, R112 step 4 is not taken: DEDUCED (log 39), unsafe. -/
def State.endDraining (s : State) (i : SlotId) : State :=
  let t := s.modSlot i fun p => { p.fenceAll with seq := { p.fenceAll.seq with drainTimer := none } }
  match (s.slot i).current.kind with
  | .admission => t.failAdmission i
  | .fault =>
    let f := t.modSlot i fun p => p.setState .fenced
    if f.automatic i then f.startRecovery i else f.modSlot i Slot.clearHeld

/-- A DRAINING slot whose LIVE count is 0 ends DRAINING (R84). -/
def State.drainIfIdle (s : State) (i : SlotId) : State :=
  if (s.slot i).seq.state = .draining ∧ (s.slot i).liveCount = 0 then s.endDraining i else s

/-- DRAINING is entered (R82): the gates close, the drain timer is loaded from the plan record, and the drain ends at
once with no LIVE entry or a DRAIN time of 0, with that time in a HELD slot too, as R82 and R51 say and R78 does not.
DEDUCED (log 38), unsafe. -/
def State.enterDraining (s : State) (i : SlotId) : State :=
  let t := s.modSlot i fun p =>
    let q := p.closeGates.setState .draining
    { q with seq := { q.seq with probationTimer := none, drainTimer := some (units q.seq.plan.drain) } }
  if (t.slot i).liveCount = 0 ∨ (t.slot i).seq.plan.drain = 0 then t.endDraining i else t

/-- The further causes of a trip: STRAY_ANSWERS where the visit that tripped found both accumulators above (R70). -/
def furtherOf (alsoStray : Bool) : CauseSet := if alsoStray then TripCause.mask .strayAnswers else 0

/-- A trip in PROBATION continues the incident (R78): the cause joins the further causes, the record describes this
trip, and for a FAULT the attempt counts as failed. -/
def Slot.continueIncident (p : Slot) (c : TripCause) (alsoStray : Bool) (view : TripView) : Slot :=
  let q := p.notePending fun r =>
    { r with further := r.further.add c ||| furtherOf alsoStray, tripState := .probation, view := view }
  match p.current.kind with
  | .fault => q.countAttempt
  | .admission => q

/-- A trip is delivered to a slot's sequencer (R77, R78); a slot that is not serving takes none. -/
def State.trip (s : State) (i : SlotId) (c : TripCause) (alsoStray : Bool) (view : TripView) : State :=
  match (s.slot i).seq.state with
  | .online =>
    ((s.openIncident i .fault (.trip c) (furtherOf alsoStray) .online view).modSlot i Slot.countTrip).enterDraining i
  | .probation => (s.modSlot i fun p => (p.continueIncident c alsoStray view).countTrip).enterDraining i
  | .empty => s
  | .offline => s
  | .draining => s
  | .fenced => s
  | .recovering => s
  | .retired => s

/-- A trip with the view of the slot as it stands (R45, R60). -/
def State.tripNow (s : State) (i : SlotId) (c : TripCause) : State :=
  s.trip i c false ((s.slot i).tripView s.time.now)

/-! ### Abort (R118) -/

/-- The abort of a sequence, by ABORT or KILL (R118, R74): FENCED, the incident left PENDING. SLOT-RESET is asserted
except from DRAINING with the link up; POWER-ENABLE is left. -/
def Slot.abortSequence (p : Slot) : Slot :=
  let q := match p.seq.state with
    | .draining => if p.lines.linkUp then p.fenceAll else p.fenceAll.assertReset
    | .probation => (p.closeGates.fenceAll).assertReset
    | _ => p.assertReset
  (q.stopSequence.setState .fenced).clearHeld

/-- The abort event of a slot in DRAINING, RECOVERING or PROBATION (R118). -/
def State.abort (s : State) (i : SlotId) : State := (s.modSlot i Slot.abortSequence).releaseRail i

end Sys2Proof.Machine
end

