-- ==== Sys2Proof/Machine/Deadlines.lean ====
section
/-! DEFINITION. Allowances, deadlines and latency samples (chapter 3), and admission to the ORT (R25). -/

namespace Sys2Proof.Machine

/-- The limits record of a class (R52). -/
def DeadlineUnit.limits (d : DeadlineUnit) : RequestClass → Limits
  | .mem => d.memLimits
  | .cfg => d.cfgLimits

/-- The estimator of a class (R54). -/
def DeadlineUnit.estimator (d : DeadlineUnit) : RequestClass → Estimator
  | .mem => d.memEst
  | .cfg => d.cfgEst

/-- One class's limits record is written and its estimator reset (R53). -/
def DeadlineUnit.setLimits (d : DeadlineUnit) (c : RequestClass) (l : Limits) : DeadlineUnit :=
  match c with
  | .mem => { d with memLimits := l, memEst := Estimator.zero }
  | .cfg => { d with cfgLimits := l, cfgEst := Estimator.zero }

/-- A latency sample: EST16 moves by floor((16·L − EST16) / 8), SAMPLES counts up to 8 (R56). -/
def Estimator.sample (e : Estimator) (latency : Nat) : Estimator :=
  { est16 := ((e.est16 : Int) + (16 * (latency : Int) - (e.est16 : Int)) / 8).toNat
    samples := satAdd Config.learningSamples e.samples 1 }

/-- The sample of an entry: now minus issue time, at most 65535 (R55). -/
def latencyOf (now issue : Ticks) : Nat := min Config.latencyLimit (ticksSince now issue)

/-- A latency sample goes to the estimator of its class (R55). -/
def DeadlineUnit.sample (d : DeadlineUnit) (c : RequestClass) (latency : Nat) : DeadlineUnit :=
  match c with
  | .mem => { d with memEst := d.memEst.sample latency }
  | .cfg => { d with cfgEst := d.cfgEst.sample latency }

/-- The allowance of a request in ticks (R57): CEIL while learning, else E + Lterm brought within FLOOR..CEIL. -/
def DeadlineUnit.allowance (d : DeadlineUnit) (c : RequestClass) (length : Nat) : Nat :=
  let l := d.limits c
  let e := d.estimator c
  if e.samples < Config.learningSamples then l.ceil
  else
    let lterm := match c with
      | .mem => length * l.per16 / 16
      | .cfg => 0
    clampTo l.floor l.ceil (e.est16 * l.mult / 64 + lterm)

/-- Bytes still owed on a request at admission (R23). -/
def EntryRequest.owed : EntryRequest → Nat
  | .memRead _ len => 4 * len
  | .cfgRead _ => 4
  | .cfgWrite _ _ _ => 0

/-- The entry made at admission (R23, R25, R58). -/
def Slot.newEntry (p : Slot) (now : Ticks) (r : Requester) (t : Tag) (q : EntryRequest) : Entry :=
  { number := freeNumber p.traffic.ort
    requester := r
    tag := t
    request := q
    issueTime := now
    deadline := now + BitVec.ofNat 32 (p.deadlines.allowance q.cls q.length)
    remaining := q.owed
    keepKey := true
    state := .live }

/-- A head goes from the Send Queue to the slot link: progress, and a request is counted (R16, R64). -/
def Slot.depart (p : Slot) (tx : Transaction) : Slot :=
  { p with
    traffic := { p.traffic with
      sendQueue := p.traffic.sendQueue.tail
      linkSent := p.traffic.linkSent ++ [toLink tx] }
    counters := if isRequest tx then
        { p.counters with forwarded := satAdd Config.counterLimit p.counters.forwarded 1 }
      else p.counters }.reloadStall

/-- The head's key is held by an occupied entry of the slot's ORT (R25 check 1). -/
def Slot.duplicateKey (p : Slot) (tx : Transaction) : Bool :=
  match keyOf tx with
  | some (r, t) => p.traffic.ort.any (Entry.hasKey r t)
  | none => false

/-- A non-posted head is admitted: the entry joins the list in LIVE and the request departs, in one event (R25). -/
def Slot.admitEntry (p : Slot) (now : Ticks) (tx : Transaction) : Slot :=
  match entryRequestOf tx with
  | some (r, t, q) =>
    { p with traffic := { p.traffic with ort := p.traffic.ort ++ [p.newEntry now r t q] } }.depart tx
  | none => p

/-- The ORT admits a non-posted head when its key is free and an entry is free (R25 checks 1 and 2). -/
def Slot.admissible (p : Slot) (tx : Transaction) : Bool :=
  nonPosted tx && !p.duplicateKey tx && decide (p.traffic.ort.length < Config.ortEntries)

/-- When an entry is freed, a waiting non-posted head of a serving slot is considered again and admitted in the same
event if the link can accept (R25, R27, R39; log 29). -/
def Slot.reconsider (p : Slot) (now : Ticks) (linkRoom : Bool) : Slot :=
  match p.traffic.sendQueue.head? with
  | some tx => if p.serving && p.lines.linkUp && linkRoom && p.admissible tx then p.admitEntry now tx else p
  | none => p

end Sys2Proof.Machine
end

