-- ==== Sys2Proof/Machine/Resets.lean ====
section
/-! DEFINITION. POWER_ON_RESET, TRUNK_RESET, TRUNK_UP, the management reset's beginning and end, RESET_PART_END and
TICK_END. -/

namespace Sys2Proof.Machine

/-- The order in which the four slots take one event, each of them once: the operand's order, then the slots it
leaves out (log 10). -/
def slotOrder (order : List SlotId) : List SlotId :=
  order.dedup ++ SlotId.all.filter fun i => !order.contains i

/-! ### The management reset (R125, R172, R173) -/

/-- What the beginning of a management reset does to a slot that is not EMPTY (R172): its sequence stops, the gates of
a serving slot close, LIVE entries are fenced, and it is OFFLINE with its lines as they stand. -/
def Slot.beginReset (p : Slot) : Slot :=
  let q := (p.stopSequence.setState .offline).clearHeld
  let g := if p.serving then q.closeGates else q
  g.fenceAll

/-- Pending counts and accumulators are 0 at a management reset (R68, R71, log 28). -/
def Slot.clearHealth (p : Slot) : Slot :=
  { p with detect := { p.detect with pendingErrors := 0, pendingStrays := 0, errAcc := 0, strayAcc := 0 } }

/-- The beginning of a management reset at one slot: the incident closes ABORTED, then the slot is stopped (R125, R172,
log 18). -/
def State.beginResetSlot (s : State) (i : SlotId) : State :=
  if (s.slot i).seq.state = .empty then s.modSlot i Slot.clearHealth
  else ((s.closeIncident i .aborted).modSlot i Slot.beginReset).modSlot i Slot.clearHealth

/-- The slots that are not EMPTY, for whose owed answers the reset waits (R172). -/
def State.nonEmptySlots (s : State) : PerSlot Bool := s.slots.map fun p => p.seq.state != .empty

/-- A RESET PART begins (R172): every slot in turn, and both rails cleared (R129). The SAQ keeps the items it held (R97),
none of which this reset appended. -/
def State.beginReset (s : State) : State :=
  let t := SlotId.all.foldl State.beginResetSlot s
  { t with
    saq := t.saq.map fun item => { item with ofReset := false }
    railA := Rail.free
    railB := Rail.free
    resetScope := some s.nonEmptySlots }

/-- A slot holds no FENCED entry and its Send Queue is empty (R172). -/
def Slot.nothingOwed (p : Slot) : Bool := !p.traffic.ort.any Entry.isFenced && p.traffic.sendQueue.isEmpty

/-- The condition for the end of a RESET PART in progress (R172). -/
def State.resetOwesNothing (s : State) : Bool :=
  match s.resetScope with
  | some scope => SlotId.all.all fun i => !scope.get i || (s.slot i).nothingOwed
  | none => false

/-- Plan, limits, estimators, monitor record and scripts of a slot return to their power-on values (R173). -/
def Slot.restoreDefaults (p : Slot) : Slot :=
  { p with
    seq := { p.seq with plan := Plan.default }
    deadlines := DeadlineUnit.default
    detect := { p.detect with monitor := MonitorRecord.default }
    script := ScriptStore.default }

/-- The tables, policies and notices return to their power-on values (R173, R166); the mailbox is not touched here. -/
def State.restoreTables (s : State) : State :=
  { s with
    slots := s.slots.map Slot.restoreDefaults
    windowStaging := defaultWindows
    windowActive := defaultWindows
    slotBus := PerSlot.all 0
    health := { s.health with visit := HealthMonitor.default.visit }
    notices := { s.notices with summary := Summary.clear, enabled := false, address := 0 }
    resetScope := none }.withdrawNotice

/-- The end of a RESET PART: the tables return to their defaults and the mailbox goes to DONE with result OK and the
response dwords 0 (R173). -/
def State.endReset (s : State) : State :=
  { s.restoreTables with
    mailbox := { s.mailbox with state := .done, result := .ok, response := Vector.replicate 16 0 } }

/-- The reset ends in the first event in which its condition holds (R172, log 14): every event that can make it hold
ends with this. -/
def State.settleReset (s : State) : State := if s.resetOwesNothing then s.endReset else s

/-- RESET_PART_END (R173): the end of a RESET PART in progress that owes nothing. -/
def execResetPartEnd (s : State) : Host.Outcome State Fault Refusal := .next s.settleReset

/-! ### Power-on and trunk resets -/

/-- POWER_ON_RESET (R99, and the power-on value each chapter gives): every block takes its power-on value. The queue
and the model's count of free values are not the part's and stand. -/
def execPowerOnReset (pins : PowerOnPins) (s : State) : Host.Outcome State Fault Refusal :=
  .next { State.powerOn pins with pending := s.pending, freeIndex := s.freeIndex }

/-- Whether a trunk reset leaves a Receive Queue entry: an answer carrying requester FFFFh (R17). -/
def survivesTrunkReset : Transaction → Bool
  | .answer r _ _ _ _ _ => r == ownRequester
  | .memRead _ _ _ _ => false
  | .memWrite _ _ _ _ => false
  | .cfgRead _ _ _ _ => false
  | .cfgWrite _ _ _ _ _ _ => false
  | .message _ _ => false

/-- A trunk reset at one slot (R15, R17, R19, R43, R64): the Send Queue and the stage are emptied, the Receive Queue
of all but the executor's answers, card requests are counted, the ORT is freed, the Stall Monitor reloaded. -/
def Slot.trunkReset (p : Slot) : Slot :=
  let lost := p.traffic.recvQueue.countP fun tx => !isAnswer tx
  let staged := match p.traffic.stage with
    | some tx => if isAnswer tx then 0 else 1
    | none => 0
  ({ p with traffic := { p.traffic with
      sendQueue := []
      recvQueue := p.traffic.recvQueue.filter survivesTrunkReset
      stage := none
      ort := [] } }.countDroppedCardRequests (lost + staged)).reloadStall

/-- The mailbox after a trunk reset (R175): IDLE, everything the host reads or writes 0. -/
def Mailbox.trunkReset (m : Mailbox) : Mailbox :=
  { m with
    state := .idle, result := .ok, goLost := false, code := 0, command := 0, params := Vector.replicate 8 0,
    response := Vector.replicate 16 0 }

/-- The routing blocks, the ORTs and the mailbox at a trunk reset (R21, R43, R175). -/
def State.loseTrunk (s : State) : State :=
  { s with
    slots := s.slots.map Slot.trunkReset
    head := none
    trunkUp := false
    saq := []
    lastServed := .mgt
    mailbox := s.mailbox.trunkReset }

/-- The waiting answer and the unsent notice are dropped, uncounted, and MGT presents nothing (R163, R175). -/
def State.dropPresented (s : State) : State :=
  { s with notices := { s.notices with unsent := false }, waitingAnswer := none, presenting := none }

/-- TRUNK_RESET (R21, R43, R98, R175): the trunk's traffic is lost; a RESET PART in progress reaches its end unseen
(R173); every DRAINING slot ends its drain, its LIVE count being 0 (R84). What MGT would present is dropped last, a notice
that a drain's end has queued with it: after the event MGT presents nothing. DEDUCED (log 19), unsafe. -/
def execTrunkReset (order : List SlotId) (s : State) : Host.Outcome State Fault Refusal :=
  let t := s.loseTrunk
  let r := if s.resetScope.isSome then t.restoreTables else t
  .next ((slotOrder order).foldl State.drainIfIdle r).dropPresented

/-- TRUNK_UP (R21): ingress takes the host's transactions again and the arbiter may grant. -/
def execTrunkUp (s : State) : Host.Outcome State Fault Refusal := .next { s with trunkUp := true }

/-! ### The tick (R49, R51, R63, R69) -/

/-- A unit timer counts one tick down; a timer that does not exist stays so (R51). -/
def tickTimer (t : UnitTimer) : UnitTimer := t.map fun n => n - 1

/-- The sequencer's unit timers at the end of a tick. -/
def Sequencer.tick (q : Sequencer) : Sequencer :=
  { q with
    drainTimer := tickTimer q.drainTimer
    phaseTimer := tickTimer q.phaseTimer
    reissueTimer := tickTimer q.reissueTimer
    probationTimer := tickTimer q.probationTimer }

/-- The executor's unit timers at the end of a tick. -/
def Executor.tick (x : Executor) : Executor :=
  { x with
    stepTimer := tickTimer x.stepTimer
    reissueTimer := tickTimer x.reissueTimer
    intervalTimer := tickTimer x.intervalTimer
    limitTimer := tickTimer x.limitTimer
    pauseTimer := tickTimer x.pauseTimer }

/-- The Stall Monitor at the end of a tick: a counting monitor counts down, and at 0 its STALL trip is due
(R63, R65). -/
def Slot.tickStall (p : Slot) : Slot :=
  if p.stallCounting then
    { p with detect := { p.detect with
        stallCount := p.detect.stallCount - 1
        stallDue := p.detect.stallDue || decide (p.detect.stallCount ≤ 1) } }
  else p

/-- A slot at the end of a tick: the Stall Monitor whether HELD or not, every unit timer unless HELD freezes it
(R51, R63, R116, R152). -/
def Slot.tick (p : Slot) : Slot :=
  let q := p.tickStall
  if p.seq.held then q else { q with seq := q.seq.tick, exec := q.exec.tick }

/-- TICK_END (R47, R49): the tick counter advances, a newly written PRESCALE takes effect, and everything that counts
ticks counts one. -/
def execTickEnd (s : State) : Host.Outcome State Fault Refusal :=
  .next { s with
    slots := s.slots.map Slot.tick
    time := { s.time with now := s.time.now + 1, tickPrescale := s.time.prescale }
    health := { s.health with visitTimer := s.health.visitTimer - 1 } }

end Sys2Proof.Machine
end

