-- ==== Sys2Proof/Machine/Queues.lean ====
section
/-! DEFINITION. The Send Queue, the Receive Queue, the ORT's answers and the Egress Arbiter: SEND_QUEUE_DEPARTURE,
DUPLICATE_KEY_DISPOSAL, CONTAINMENT_QUEUE_ANSWER, FENCED_ENTRY_ANSWER, SLOT_LINK_RECEIVE, RECEIVE_QUEUE_TAKE and
EGRESS_GRANT. -/

namespace Sys2Proof.Machine

/-! ### Downstream -/

/-- SEND_QUEUE_DEPARTURE (R16, R25, R27): the head of a serving slot's Send Queue goes to the slot link, which is up
and has room; a non-posted head only with its admission. A duplicate key and a full ORT wait. -/
def execSendQueueDeparture (i : SlotId) (s : State) : Host.Outcome State Fault Refusal :=
  .next <|
    match (s.slot i).traffic.sendQueue.head? with
    | none => s
    | some tx =>
      if (s.slot i).serving && (s.slot i).lines.linkUp then
        if nonPosted tx then
          if (s.slot i).admissible tx then s.modSlot i fun p => p.admitEntry s.time.now tx else s
        else s.modSlot i fun p => p.depart tx
      else s

/-- The head leaves a Send Queue without going to the link. -/
def Slot.popSend (p : Slot) : Slot :=
  { p with traffic := { p.traffic with sendQueue := p.traffic.sendQueue.tail } }

/-- DUPLICATE_KEY_DISPOSAL (R26): a duplicate-key head of a serving slot is answered UNSUPPORTED once the SAQ has
room. -/
def execDuplicateKeyDisposal (i : SlotId) (s : State) : Host.Outcome State Fault Refusal :=
  .next <|
    match (s.slot i).traffic.sendQueue.head? with
    | none => s
    | some tx =>
      if (s.slot i).serving && (s.slot i).duplicateKey tx && s.saqRoom then
        match unsupportedItem tx with
        | some item => (s.appendSaq item).modSlot i fun p => p.popSend.countDuplicate
        | none => s
      else s

/-- The containment path's claim for the head of a Send Queue is met where the SAQ has room (R87): a non-posted head is
answered in the slot's style and the posted entries behind it are dropped. -/
def State.answerQueued (s : State) (i : SlotId) : State :=
  match (s.slot i).traffic.sendQueue.head? with
  | none => s
  | some tx =>
    if !(s.slot i).serving && s.saqRoom then
      match (s.slot i).containmentItem tx with
      | some item => ((s.appendOwed i item).modSlot i fun p => p.popSend.countSynthetic.dropPosted).settleReset
      | none => s
    else s

/-- The claim of a slot's oldest FENCED entry is met where the SAQ has room (R38): it goes to ANSWERING as its item joins
the SAQ. -/
def State.answerFenced (s : State) (i : SlotId) : State :=
  match (s.slot i).traffic.ort.find? Entry.isFenced with
  | none => s
  | some e =>
    if s.saqRoom then
      ((s.appendOwed i ((s.slot i).entryItem i e)).modSlot i fun p =>
        { p with traffic := { p.traffic with
            ort := updateFirst Entry.isFenced (fun x => { x with state := .answering }) p.traffic.ort } }.countSynthetic
        ).settleReset
    else s

/-- CONTAINMENT_QUEUE_ANSWER (R87): the non-posted head of a Send Queue held by containment is answered in the slot's
style once the SAQ has room; the posted entries behind it are dropped in the same event. -/
def execContainmentQueueAnswer (i : SlotId) (s : State) : Host.Outcome State Fault Refusal := .next (s.answerQueued i)

/-- FENCED_ENTRY_ANSWER (R38): the oldest FENCED entry of the slot goes to ANSWERING as its item joins the SAQ, once
the SAQ has room. -/
def execFencedEntryAnswer (i : SlotId) (s : State) : Host.Outcome State Fault Refusal := .next (s.answerFenced i)

/-- One claim that a RESET PART in progress waits for is met: of the first slot that owes an answer its oldest FENCED
entry, or else its Send Queue head. The order of the claims here is the model's; FENCED_ENTRY_ANSWER and
CONTAINMENT_QUEUE_ANSWER meet them in any other. DESIGN CHOICE (log 42), safe. -/
def State.meetClaim (s : State) : State :=
  match SlotId.all.find? fun i => s.resetWaitsFor i && !(s.slot i).nothingOwed with
  | none => s
  | some i => if (s.slot i).traffic.ort.any Entry.isFenced then s.answerFenced i else s.answerQueued i

/-- The claims that a RESET PART in progress waits for are met, up to a number of them, until the SAQ is full or the reset
has ended (R93, R97). -/
def State.meetClaims : Nat → State → State
  | 0, s => s
  | n + 1, s => if s.resetScope.isSome && s.saqRoom then meetClaims n s.meetClaim else s

/-! ### Upstream -/

/-- SLOT_LINK_RECEIVE (R17): a card's transaction joins the Receive Queue; a full queue back-pressures the link. -/
def execSlotLinkReceive (i : SlotId) (tx : Transaction) (s : State) : Host.Outcome State Fault Refusal :=
  .next <|
    if (s.slot i).traffic.recvQueue.length < Config.receiveQueueEntries then
      s.modSlot i fun p => { p with traffic := { p.traffic with recvQueue := p.traffic.recvQueue ++ [tx] } }
    else s

/-- How an answer that matches a LIVE entry is judged (R29). -/
inductive Judgement where
  | final | partly | malformed
deriving DecidableEq, Repr

/-- R29: a status other than OK, and every answer to a configuration request, is final; an OK answer to a MEMORY READ
is judged by its byte counts against the entry. -/
def Entry.judge (e : Entry) (st : Status) (remaining dataCount : Nat) : Judgement :=
  if st ≠ .ok then .final
  else
    match e.request.cls with
    | .cfg => .final
    | .mem =>
      if remaining = e.remaining ∧ dataCount ≤ remaining then
        if dataCount = remaining then .final else .partly
      else .malformed

/-- A stale answer is final by its own fields (R34). -/
def Entry.staleFinal (e : Entry) (st : Status) (remaining dataCount : Nat) : Bool :=
  st != .ok || e.request.cls == .cfg || dataCount == remaining

/-- The first entry with a key leaves the list; its neighbours keep their order (R22). -/
def Slot.freeKey (p : Slot) (r : Requester) (t : Tag) : Slot :=
  { p with traffic := { p.traffic with ort := p.traffic.ort.eraseP (Entry.hasKey r t) } }

/-- An answer is placed in the upstream stage (R30). -/
def Slot.stageTx (p : Slot) (tx : Transaction) : Slot := { p with traffic := { p.traffic with stage := some tx } }

/-- A completed CONFIG WRITE with status OK is delivered for capture (R32, R145). -/
def Slot.deliverCapture (p : Slot) (q : EntryRequest) (st : Status) : Slot :=
  match q with
  | .cfgWrite off be data => if st = .ok then { p with script := p.script.captureWrite off be data } else p
  | .cfgRead _ => p
  | .memRead _ _ => p

/-- A final answer completes its request (R32): forwarded, freed, sampled, delivered for capture; a waiting head is
considered again. The sample comes before that head's allowance, where R57 allows either order. DESIGN CHOICE (log 37),
unsafe. -/
def Slot.completeEntry (p : Slot) (now : Ticks) (e : Entry) (st : Status) (tx : Transaction) (linkRoom : Bool) : Slot :=
  let q := ((p.stageTx tx).freeKey e.requester e.tag).deliverCapture e.request st
  { q with deadlines := q.deadlines.sample e.request.cls (latencyOf now e.issueTime) }.reconsider now linkRoom

/-- A card answer is matched by key and dealt with (R28 to R35). -/
def Slot.takeAnswer (p : Slot) (now : Ticks) (r : Requester) (t : Tag) (st : Status) (remaining dataCount : Nat)
    (tx : Transaction) (linkRoom : Bool) : Slot :=
  match p.traffic.ort.find? (Entry.hasKey r t) with
  | none => p.countStray
  | some e =>
    match e.state with
    | .live =>
      match e.judge st remaining dataCount with
      | .final => p.completeEntry now e st tx linkRoom
      | .partly =>
        { p with traffic := { p.traffic with
            stage := some tx
            ort := updateFirst (Entry.hasKey r t) (fun x => { x with remaining := x.remaining - dataCount })
              p.traffic.ort } }
      | .malformed => p.countStray
    | .fenced => p.countStale
    | .answering => p.countStale
    | .tombstone =>
      if e.staleFinal st remaining dataCount then (p.countStale.freeKey r t).reconsider now linkRoom
      else p.countStale

/-- The dword the executor reads from an answer's data: the first four bytes, of a longer answer too (DEDUCED, log 40,
unsafe), or a free value where there are fewer (log 8). -/
def State.readDword (s : State) (data : List Byte) : Dword × State :=
  match dwordOfBytes? data with
  | some d => (d, s)
  | none => (Config.freeReadDword s.freeIndex, { s with freeIndex := s.freeIndex + 1 })

/-- A dword agrees with the expected one in every bit the mask selects (R140). -/
def agrees (mask expected d : Dword) : Bool := d &&& mask == expected &&& mask

/-- The answer to a step's access (R149, R150). -/
def State.stepAnswer (s : State) (i : SlotId) (st : Status) (data : List Byte) : State :=
  match (s.slot i).currentStep with
  | none => s
  | some step =>
    match st with
    | .abort => s.failAttempt i
    | .unsupported => s.failAttempt i
    | .retry =>
      s.modSlot i fun p =>
        match step with
        | .poll _ _ _ _ => { p with exec := { p.exec with intervalTimer := some (units 1) } }
        | _ => { p with exec := { p.exec with reissueTimer := some (units 1) } }
    | .ok =>
      match step with
      | .write _ _ _ => s.passStep i
      | .pause _ => s
      | .verify _ mask expected =>
        let r := s.readDword data
        if agrees mask expected r.1 then r.2.passStep i else r.2.failAttempt i
      | .poll _ mask expected _ =>
        let r := s.readDword data
        if agrees mask expected r.1 then r.2.passStep i
        else r.2.modSlot i fun p => { p with exec := { p.exec with intervalTimer := some (units 1) } }

/-- The answer to the reset write (R105). -/
def State.resetWriteAnswer (s : State) (i : SlotId) (st : Status) : State :=
  match st with
  | .ok => s.enterSettle i
  | .retry => s.modSlot i fun p => { p with seq := { p.seq with reissueTimer := some (units 1) } }
  | .abort => s.failAttempt i
  | .unsupported => s.failAttempt i

/-- An answer carrying requester FFFFh is given to the executor (R146): the answer of the access in flight if the tags
are equal, else discarded without effect. -/
def State.executorAnswer (s : State) (i : SlotId) (t : Tag) (st : Status) (data : List Byte) : State :=
  match (s.slot i).exec.inFlight with
  | none => s
  | some a =>
    if a.tag = t then
      let u := s.modSlot i fun p => { p with exec := { p.exec with inFlight := none } }
      match (s.slot i).seq.phase with
      | some .functionReset => u.resetWriteAnswer i st
      | some .restoring => u.stepAnswer i st data
      | _ => u
    else s

/-- The head leaves the Receive Queue. -/
def Slot.popReceive (p : Slot) : Slot :=
  { p with traffic := { p.traffic with recvQueue := p.traffic.recvQueue.tail } }

/-- RECEIVE_QUEUE_TAKE (R18): the head goes to the executor, the ORT or the upstream stage, or is discarded. An answer
for the ORT and a forwardable card request wait for an empty stage. The taking of an answer is progress (R64). -/
def execReceiveQueueTake (i : SlotId) (linkRoom : Bool) (s : State) : Host.Outcome State Fault Refusal :=
  .next <|
    match (s.slot i).traffic.recvQueue.head? with
    | none => s
    | some (.answer r t st remaining dataCount data) =>
      if r = ownRequester then (s.modSlot i fun p => p.popReceive.reloadStall).executorAnswer i t st data
      else if (s.slot i).traffic.stage.isSome then s
      else
        (s.modSlot i fun p =>
          p.popReceive.reloadStall.takeAnswer s.time.now r t st remaining dataCount
            (.answer r t st remaining dataCount data) linkRoom).drainIfIdle i
    | some (.cfgRead _ _ _ _) => s.modSlot i fun p => p.popReceive.countDroppedCardRequests 1
    | some (.cfgWrite _ _ _ _ _ _) => s.modSlot i fun p => p.popReceive.countDroppedCardRequests 1
    | some (.message .downstream _) => s.modSlot i fun p => p.popReceive.countDroppedCardRequests 1
    | some tx =>
      if (s.slot i).traffic.stage.isSome then s
      else if (s.slot i).serving then s.modSlot i fun p => p.popReceive.stageTx tx
      else s.modSlot i fun p => p.popReceive.countDroppedCardRequests 1

/-! ### The Egress Arbiter (R20) -/

/-- A source is ready (R20). -/
def State.ready (s : State) : Source → Bool
  | .slot i => (s.slot i).traffic.stage.isSome
  | .syn => !s.saq.isEmpty
  | .mgt => s.presenting.isSome

/-- The ring from the source that follows the last served one (R20). -/
def ringAfter : Source → List Source
  | .slot .s0 => [.slot .s1, .slot .s2, .slot .s3, .syn, .mgt, .slot .s0]
  | .slot .s1 => [.slot .s2, .slot .s3, .syn, .mgt, .slot .s0, .slot .s1]
  | .slot .s2 => [.slot .s3, .syn, .mgt, .slot .s0, .slot .s1, .slot .s2]
  | .slot .s3 => [.syn, .mgt, .slot .s0, .slot .s1, .slot .s2, .slot .s3]
  | .syn => [.mgt, .slot .s0, .slot .s1, .slot .s2, .slot .s3, .syn]
  | .mgt => [.slot .s0, .slot .s1, .slot .s2, .slot .s3, .syn, .mgt]

/-- The source the arbiter grants next: the first ready one of the ring (R20). -/
def State.nextSource (s : State) : Option Source := (ringAfter s.lastServed).find? s.ready

/-- A transaction goes on the trunk. -/
def State.sendTrunk (s : State) (tx : Transaction) : State := { s with trunkSent := s.trunkSent ++ [tx] }

/-- The owning entry of a sent item is told (R39): it becomes TOMBSTONE, or is freed without keep-key and a waiting
head is considered again. -/
def Slot.ownerTold (p : Slot) (now : Ticks) (n : Nat) (linkRoom : Bool) : Slot :=
  match p.traffic.ort.find? (Entry.hasNumber n) with
  | none => p
  | some e =>
    if e.keepKey then
      { p with traffic := { p.traffic with
          ort := updateFirst (Entry.hasNumber n) (fun x => { x with state := .tombstone }) p.traffic.ort } }
    else
      { p with traffic := { p.traffic with ort := p.traffic.ort.eraseP (Entry.hasNumber n) } }.reconsider now linkRoom

/-- What comes before a grant of SYN in a RESET PART (R93, R97, R172): where the reset appended the head item itself and the
SAQ has room, the claims that are left are met first, so that the item is sent after the reset has ended, or out of a full
SAQ. DEDUCED (log 41), unsafe. -/
def State.beforeSyn (s : State) : State :=
  match s.saq with
  | [] => s
  | item :: _ => if s.resetHolds item then State.meetClaims Config.saqItems s else s

/-- SYN is granted (R94): the head item leaves the SAQ and is sent as an answer. -/
def State.grantSyn (s : State) (linkRoom : Bool) : State :=
  match s.saq with
  | [] => s
  | item :: rest =>
    let t := { s with saq := rest }.sendTrunk item.toAnswer
    match item.owner with
    | none => t
    | some o => t.modSlot o.slot fun p => p.ownerTold s.time.now o.entry linkRoom

/-- A slot source is granted (R19, R20): its stage's transaction is sent unchanged. -/
def State.grantSlot (s : State) (i : SlotId) : State :=
  match (s.slot i).traffic.stage with
  | none => s
  | some tx => (s.modSlot i fun p => { p with traffic := { p.traffic with stage := none } }).sendTrunk tx

/-- The answer of the Management Function as it goes on the trunk (R167). -/
def MgtAnswer.toAnswer (a : MgtAnswer) : Transaction :=
  match a.data with
  | some d => .answer a.requester a.tag .ok 4 4 (dwordBytes d)
  | none => .answer a.requester a.tag .ok 0 0 []

/-- The notice as it goes on the trunk (R163, R179). -/
def Notices.toWrite (n : Notices) : Transaction := .memWrite ownRequester n.address 1 [n.summary.toDword]

/-- MGT is granted (R163, R169): what it presents is sent, and it presents what it holds next. -/
def State.grantMgt (s : State) : State :=
  match s.presenting with
  | none => s
  | some .answer =>
    let t := { s with waitingAnswer := none, presenting := none }
    (match s.waitingAnswer with
      | some a => t.sendTrunk a.toAnswer
      | none => t).present
  | some .notice =>
    ({ s with
        notices := { s.notices with unsent := false }
        presenting := none
        counters := { s.counters with notices := satAdd Config.counterLimit s.counters.notices 1 } }.sendTrunk
      s.notices.toWrite).present

/-- EGRESS_GRANT (R20): the trunk, which is up and can accept, is granted to the next ready source, which becomes the
last served. The items that a RESET PART appends are sent after it has ended (R97, R172), but for those that leave a full SAQ
to make room for the rest (R93, R97). -/
def execEgressGrant (linkRoom : Bool) (s : State) : Host.Outcome State Fault Refusal :=
  .next <|
    if s.trunkUp then
      match s.nextSource with
      | none => s
      | some (.slot i) => { s.grantSlot i with lastServed := .slot i }
      | some .syn => { s.beforeSyn.grantSyn linkRoom with lastServed := .syn }
      | some .mgt => { s.grantMgt with lastServed := .mgt }
    else s

end Sys2Proof.Machine
end

