-- ==== Sys2Proof/Machine/Detect.lean ====
section
/-! DEFINITION. Detection's own events (chapter 4): EXPIRY, STALL_TRIP, HEALTH_VISIT and CORRECTED_LINK_ERROR. -/

namespace Sys2Proof.Machine

/-- The LIVE entry with this number whose deadline has been reached (R36, R50, R59). -/
def Slot.expiring (p : Slot) (now : Ticks) (n : Nat) : Bool :=
  p.traffic.ort.any fun e => e.hasNumber n && e.isLive && reached now e.deadline

/-- EXPIRY (R36, R60, R61): the entry becomes FENCED; a serving slot takes a DEADLINE trip, described with the entry
still LIVE; a DRAINING slot whose LIVE count falls to 0 ends its drain. -/
def execExpiry (i : SlotId) (n : Nat) (s : State) : Host.Outcome State Fault Refusal :=
  .next <|
    if (s.slot i).expiring s.time.now n then
      let fenced := s.modSlot i fun p =>
        { p with traffic := { p.traffic with
            ort := updateFirst (fun e => e.hasNumber n && e.isLive) Entry.fence p.traffic.ort } }
      if (s.slot i).serving then fenced.trip i .deadline false ((s.slot i).tripView s.time.now)
      else fenced.drainIfIdle i
    else s

/-- STALL_TRIP (R65): the counting Stall Monitor of a serving slot has reached 0 and its trip is taken. -/
def execStallTrip (i : SlotId) (s : State) : Host.Outcome State Fault Refusal :=
  .next <|
    if (s.slot i).serving && (s.slot i).detect.stallDue then
      (s.modSlot i fun p => { p with detect := { p.detect with stallDue := false } }).tripNow i .stall
    else s

/-- An accumulator at a serving visit: it loses DECAY, gains the pending count, and stops at 255 (R70). -/
def accumulate (acc decay pend : Nat) : Nat := min Config.accumulatorLimit ((acc - decay) + pend)

/-- A visit to a serving slot brings its accumulators up to date and clears the pending counts (R70). -/
def Slot.visitServing (p : Slot) : Slot :=
  { p with detect := { p.detect with
      errAcc := accumulate p.detect.errAcc p.detect.monitor.decay p.detect.pendingErrors
      strayAcc := accumulate p.detect.strayAcc p.detect.monitor.decay p.detect.pendingStrays
      pendingErrors := 0
      pendingStrays := 0 } }

/-- A visit to one slot (R70, R71). -/
def State.visit (s : State) (i : SlotId) : State :=
  if (s.slot i).serving then
    let t := s.modSlot i Slot.visitServing
    let d := (t.slot i).detect
    if d.monitor.errThresh < d.errAcc then
      t.trip i .linkErrors (decide (d.monitor.strayThresh < d.strayAcc)) ((t.slot i).tripView s.time.now)
    else if d.monitor.strayThresh < d.strayAcc then t.tripNow i .strayAnswers
    else t
  else s.modSlot i Slot.clearHealth

/-- HEALTH_VISIT (R69): the visit timer has run out; the next slot is visited, the next slot advances and the timer is
loaded with VISIT. -/
def execHealthVisit (s : State) : Host.Outcome State Fault Refusal :=
  .next <|
    if s.health.visitTimer = 0 then
      { s with health := { s.health with
          visitTimer := s.health.visit, nextSlot := s.health.nextSlot.succ } }.visit s.health.nextSlot
    else s

/-- CORRECTED_LINK_ERROR (R68): the pending error count goes up while the slot is serving. -/
def execCorrectedLinkError (i : SlotId) (s : State) : Host.Outcome State Fault Refusal :=
  .next <|
    if (s.slot i).serving then
      s.modSlot i fun p => { p with detect := { p.detect with
        pendingErrors := satAdd Config.accumulatorLimit p.detect.pendingErrors 1 } }
    else s

end Sys2Proof.Machine
end

