-- ==== Sys2Proof/Machine/Edges.lean ====
section
/-! DEFINITION. The edges of the slot links and of the lines (chapters 4 and 7): LINK_LOSS, LINK_UP, POWER_LOSS,
POWER_RISE, KILL_ASSERT, KILL_DEASSERT, REMOVAL and INSERTION. An edge of a line already at its new level is no edge
(R127, log 1). -/

namespace Sys2Proof.Machine

/-- The slot link's level. -/
def Slot.setLink (p : Slot) (up : Bool) : Slot := { p with lines := { p.lines with linkUp := up } }
/-- PWRGD's level. -/
def Slot.setPwrgd (p : Slot) (on : Bool) : Slot := { p with lines := { p.lines with pwrgd := on } }
/-- PRESENT's level. -/
def Slot.setPresent (p : Slot) (on : Bool) : Slot := { p with lines := { p.lines with present := on } }

/-- A link loss fails the attempt in FUNCTION_RESET, SETTLE and RESTORING (R105, R108, R111). -/
def linkLossFails : Option Phase → Bool
  | some .functionReset => true
  | some .settle => true
  | some .restoring => true
  | _ => false

/-- A power loss fails the attempt in SETTLE and RESTORING, and in POWER_ON once PWRGD has been seen (R108, R110,
R111, R133). -/
def Slot.powerLossFails (p : Slot) : Bool :=
  match p.seq.phase with
  | some .settle => true
  | some .restoring => true
  | some .powerOn => p.seq.pwrgdSeen
  | _ => false

/-- LINK_LOSS (R66): the link goes from up to down, and the slot takes the loss by its state. -/
def execLinkLoss (i : SlotId) (s : State) : Host.Outcome State Fault Refusal :=
  .next <|
    if (s.slot i).lines.linkUp then
      let t := s.modSlot i fun p => p.setLink false
      match (s.slot i).seq.state with
      | .online => t.tripNow i .linkDown
      | .probation => t.tripNow i .linkDown
      | .draining => t.modSlot i fun p => p.addFurther .linkDown
      | .fenced => t.modSlot i fun p => p.addFurther .linkDown
      | .recovering => if linkLossFails (s.slot i).seq.phase then t.failAttempt i else t
      | .offline => t
      | .retired => t
      | .empty => t
    else s

/-- LINK_UP (R66, R107): the link comes up, which ends LINK_WAIT. -/
def execLinkUp (i : SlotId) (s : State) : Host.Outcome State Fault Refusal :=
  .next <|
    if (s.slot i).lines.linkUp then s
    else
      let t := s.modSlot i fun p => p.setLink true
      if (s.slot i).seq.state = .recovering ∧ (s.slot i).seq.phase = some .linkWait then t.enterSettle i else t

/-- POWER_LOSS (R67): PWRGD goes from asserted to deasserted, and the slot takes the loss by its state and phase. -/
def execPowerLoss (i : SlotId) (s : State) : Host.Outcome State Fault Refusal :=
  .next <|
    if (s.slot i).lines.pwrgd then
      let t := s.modSlot i fun p => p.setPwrgd false
      match (s.slot i).seq.state with
      | .online => t.tripNow i .powerLoss
      | .probation => t.tripNow i .powerLoss
      | .draining => t.modSlot i fun p => p.addFurther .powerLoss
      | .fenced => t.modSlot i fun p => p.addFurther .powerLoss
      | .recovering => if (s.slot i).powerLossFails then t.failAttempt i else t
      | .offline => t
      | .retired => t
      | .empty => t
    else s

/-- POWER_RISE (R133): PWRGD goes from deasserted to asserted, which begins ON_SETTLE in the first part of POWER_ON. -/
def execPowerRise (i : SlotId) (s : State) : Host.Outcome State Fault Refusal :=
  .next <|
    if (s.slot i).lines.pwrgd then s
    else
      s.modSlot i fun p =>
        if p.seq.state = .recovering ∧ p.seq.phase = some .powerOn ∧ p.seq.pwrgdSeen = false then
          (p.setPwrgd true).startOnSettle
        else p.setPwrgd true

/-- One sequencer takes the assertion of KILL by its state (R74). -/
def State.takeKill (s : State) (i : SlotId) : State :=
  match (s.slot i).seq.state with
  | .online => s.tripNow i .external
  | .probation => s.tripNow i .external
  | .draining => (s.modSlot i fun p => p.addFurther .external).abort i
  | .recovering => (s.modSlot i fun p => p.addFurther .external).abort i
  | .fenced => s.modSlot i fun p => p.addFurther .external
  | .offline => s
  | .retired => s
  | .empty => s

/-- KILL_ASSERT (R74, R162): the KILL-change bit is set and each slot's sequencer takes the edge, in the given order. -/
def execKillAssert (order : List SlotId) (s : State) : Host.Outcome State Fault Refusal :=
  .next <|
    if s.kill then s else (slotOrder order).foldl State.takeKill { s with kill := true }.raiseKill

/-- KILL_DEASSERT (R75): only the KILL-change bit is set. -/
def execKillDeassert (s : State) : Host.Outcome State Fault Refusal :=
  .next <| if s.kill then { s with kill := false }.raiseKill else s

/-- The removal at the slot itself (R135 steps 1 to 3 and 5): the gates close, the sequence stops, the ORT fences and
marks, SLOT-RESET is asserted and power is off; the slot is EMPTY. -/
def Slot.remove (p : Slot) : Slot :=
  let g := if p.serving then p.closeGates else p
  let q := ((g.stopSequence.setState .empty).clearHeld).ortRemoval
  (q.assertReset.setPower false).setPresent false

/-- The removal's incident (R136): from ONLINE one is opened and closed at once; a PENDING one is closed. -/
def State.removalIncident (s : State) (i : SlotId) (before : Slot) : State :=
  match before.seq.state with
  | .online => (s.openIncident i .fault .removal 0 .online (before.tripView s.time.now)).closeIncident i .removed
  | _ => s.closeIncident i .removed

/-- REMOVAL (R135): PRESENT goes from asserted to deasserted and the slot goes to EMPTY from any state. -/
def execRemoval (i : SlotId) (s : State) : Host.Outcome State Fault Refusal :=
  .next <|
    if (s.slot i).lines.present then
      ((s.modSlot i Slot.remove).releaseRail i).removalIncident i (s.slot i)
    else s

/-- INSERTION (R137): PRESENT goes from deasserted to asserted and an EMPTY slot goes to OFFLINE. -/
def execInsertion (i : SlotId) (s : State) : Host.Outcome State Fault Refusal :=
  .next <|
    if (s.slot i).lines.present then s
    else
      s.modSlot i fun p =>
        if p.seq.state = .empty then (p.setPresent true).setState .offline else p.setPresent true

end Sys2Proof.Machine
end

