-- ==== Sys2Proof/Machine/Timers.lean ====
section
/-! DEFINITION. The unit timers that run out (chapters 5, 6 and 8), the reissues, and EXECUTOR_ACCESS_SEND. A timer has
run out when its remaining count is 0; a HELD slot's timers are frozen and do not run out (R51, R116, R152; log 12). -/

namespace Sys2Proof.Machine

/-- A unit timer of a slot has run out: it exists, its count is 0, and the slot is not HELD. -/
def Slot.ranOut (p : Slot) (t : UnitTimer) : Bool := !p.seq.held && t == some 0

/-- The phase timer of a RECOVERING slot in this phase has run out. -/
def Slot.phaseRanOut (p : Slot) (ph : Phase) : Bool :=
  p.seq.state == .recovering && p.seq.phase == some ph && p.ranOut p.seq.phaseTimer

/-- DRAIN_TIMER_RUNS_OUT (R84). -/
def execDrainTimerRunsOut (i : SlotId) (s : State) : Host.Outcome State Fault Refusal :=
  .next <|
    if (s.slot i).seq.state == .draining && (s.slot i).ranOut (s.slot i).seq.drainTimer then s.endDraining i else s

/-- EXECUTOR_ACCESS_SEND (R146): the access in flight goes to the slot link, which is up and has room; the reset write
delivers tombstone clear in the same event (R105). -/
def execExecutorAccessSend (i : SlotId) (s : State) : Host.Outcome State Fault Refusal :=
  .next <|
    match (s.slot i).exec.inFlight with
    | none => s
    | some a =>
      if !a.onLink && (s.slot i).lines.linkUp then
        s.modSlot i fun p =>
          let q : Slot :=
            { p with
              exec := { p.exec with inFlight := some { a with onLink := true } }
              traffic := { p.traffic with linkSent := p.traffic.linkSent ++ [
                match a.request with
                | .write off be data => .cfgWrite ownRequester a.tag off be data
                | .read off => .cfgRead ownRequester a.tag off] } }
          if p.seq.phase = some .functionReset then q.tombstoneClear else q
      else s

/-- FUNCTION_RESET_TIMER_RUNS_OUT (R105): the attempt fails. -/
def execFunctionResetTimerRunsOut (i : SlotId) (s : State) : Host.Outcome State Fault Refusal :=
  .next <| if (s.slot i).phaseRanOut .functionReset then s.failAttempt i else s

/-- FUNCTION_RESET_REISSUE (R105): the reset write is issued again, with a new tag. -/
def execFunctionResetReissue (i : SlotId) (s : State) : Host.Outcome State Fault Refusal :=
  .next <|
    if (s.slot i).seq.state == .recovering && (s.slot i).seq.phase == some .functionReset &&
        (s.slot i).ranOut (s.slot i).seq.reissueTimer then
      s.modSlot i fun p => { p with seq := { p.seq with reissueTimer := none } }.issue
    else s

/-- RESET_ASSERT_TIMER_RUNS_OUT (R106). -/
def execResetAssertTimerRunsOut (i : SlotId) (s : State) : Host.Outcome State Fault Refusal :=
  .next <| if (s.slot i).phaseRanOut .resetAssert then s.enterResetRelease i else s

/-- LINK_WAIT_TIMER_RUNS_OUT (R107): the attempt fails. -/
def execLinkWaitTimerRunsOut (i : SlotId) (s : State) : Host.Outcome State Fault Refusal :=
  .next <| if (s.slot i).phaseRanOut .linkWait then s.failAttempt i else s

/-- SETTLE_TIMER_RUNS_OUT (R108). -/
def execSettleTimerRunsOut (i : SlotId) (s : State) : Host.Outcome State Fault Refusal :=
  .next <| if (s.slot i).phaseRanOut .settle then s.settleDone i else s

/-- POWER_OFF_TIMER_RUNS_OUT (R109): POWER_ON is entered. -/
def execPowerOffTimerRunsOut (i : SlotId) (s : State) : Host.Outcome State Fault Refusal :=
  .next <| if (s.slot i).phaseRanOut .powerOff then s.modSlot i Slot.enterPowerOn else s

/-- PWRGD_LIMIT_RUNS_OUT (R110): the attempt fails. -/
def execPwrgdLimitRunsOut (i : SlotId) (s : State) : Host.Outcome State Fault Refusal :=
  .next <|
    if (s.slot i).phaseRanOut .powerOn && !(s.slot i).seq.pwrgdSeen then s.failAttempt i else s

/-- ON_SETTLE_RUNS_OUT (R110): the grant is released and RESET_RELEASE entered. -/
def execOnSettleRunsOut (i : SlotId) (s : State) : Host.Outcome State Fault Refusal :=
  .next <|
    if (s.slot i).phaseRanOut .powerOn && (s.slot i).seq.pwrgdSeen then (s.releaseRail i).enterResetRelease i else s

/-- The slot is in RESTORING and one of the executor's timers has run out. -/
def Slot.stepRanOut (p : Slot) (t : UnitTimer) : Bool :=
  p.seq.state == .recovering && p.seq.phase == some .restoring && p.ranOut t

/-- STEP_TIMER_RUNS_OUT (R149): the step fails, and the attempt with it. -/
def execStepTimerRunsOut (i : SlotId) (s : State) : Host.Outcome State Fault Refusal :=
  .next <| if (s.slot i).stepRanOut (s.slot i).exec.stepTimer then s.failAttempt i else s

/-- STEP_REISSUE (R149): the access is issued again with a new tag. -/
def execStepReissue (i : SlotId) (s : State) : Host.Outcome State Fault Refusal :=
  .next <|
    if (s.slot i).stepRanOut (s.slot i).exec.reissueTimer then
      s.modSlot i fun p => { p with exec := { p.exec with reissueTimer := none } }.issue
    else s

/-- POLL_INTERVAL_RUNS_OUT (R150): the read is issued again with a new tag. -/
def execPollIntervalRunsOut (i : SlotId) (s : State) : Host.Outcome State Fault Refusal :=
  .next <|
    if (s.slot i).stepRanOut (s.slot i).exec.intervalTimer then
      s.modSlot i fun p => { p with exec := { p.exec with intervalTimer := none } }.issue
    else s

/-- POLL_LIMIT_RUNS_OUT (R150): the step fails, and the attempt with it. -/
def execPollLimitRunsOut (i : SlotId) (s : State) : Host.Outcome State Fault Refusal :=
  .next <| if (s.slot i).stepRanOut (s.slot i).exec.limitTimer then s.failAttempt i else s

/-- PAUSE_RUNS_OUT (R151): the step passes. -/
def execPauseRunsOut (i : SlotId) (s : State) : Host.Outcome State Fault Refusal :=
  .next <| if (s.slot i).stepRanOut (s.slot i).exec.pauseTimer then s.passStep i else s

/-- PROBATION_TIMER_RUNS_OUT (R115). -/
def execProbationTimerRunsOut (i : SlotId) (s : State) : Host.Outcome State Fault Refusal :=
  .next <|
    if (s.slot i).seq.state == .probation && (s.slot i).ranOut (s.slot i).seq.probationTimer then s.goOnline i else s

end Sys2Proof.Machine
end

