-- ==== Sys2Proof/Machine/Operands.lean ====
section
/-! DEFINITION. The operand forms of the mailbox commands: how each layout of R176 and R177 is read from P0 to P7 and
written back into response dwords, and how each value is brought into range (the rules that own the commands). -/

namespace Sys2Proof.Machine

/-! ### The command area -/

/-- A parameter dword of the copy made at the GO (R170). -/
def State.param (s : State) (k : Fin 8) : Dword := s.mailbox.copyParams[k]

/-- The command code, bits 0 to 7 of the command dword (R176). -/
def commandCode (d : Dword) : Nat := field d 0 8

/-- The slot field, bits 8 to 15 of the command dword (R176). -/
def slotField (d : Dword) : Nat := field d 8 8

/-- The low dword of an address. -/
def lowDword (a : Address) : Dword := a.extractLsb' 0 32
/-- The high dword of an address. -/
def highDword (a : Address) : Dword := a.extractLsb' 32 32
/-- An address from its low and high dwords. -/
def addressOf (low high : Dword) : Address := high ++ low

/-! ### SET WINDOW (R9) -/

/-- A base has its low twelve bits cleared (R9). -/
def alignBase (a : Address) : Address := a &&& ~~~ (0xFFF : Address)
/-- A limit has its low twelve bits set (R9). -/
def alignLimit (a : Address) : Address := a ||| 0xFFF

/-- Base and limit as SET WINDOW settles them: aligned, and a limit below the base becomes that base's page end (R9). -/
def settleRange (base limit : Address) : Address × Address :=
  let b := alignBase base
  let l := alignLimit limit
  (b, if l < b then alignLimit b else l)

/-- The response of SET WINDOW: the window in the parameter layout (R176). -/
def windowDwords (k : Nat) (w : Window) : List Dword :=
  [place 0 8 k ||| placeBit 8 w.valid ||| placeBit 9 w.readRight ||| placeBit 10 w.writeRight,
   lowDword w.base, highDword w.base, lowDword w.limit, highDword w.limit]

/-! ### SET LIMITS (R53) -/

/-- The class a dword names (R176). -/
def classOf? : Nat → Option RequestClass
  | 0 => some .mem
  | 1 => some .cfg
  | _ => none

/-- FLOOR, CEIL, MULT and PER16 brought into range in the order of R53; the CFG record holds PER16 as 0. -/
def settleLimits (c : RequestClass) (floor ceil mult per16 : Nat) : Limits :=
  let f := clampTo 1 65535 floor
  { floor := f
    ceil := clampTo f 65535 ceil
    mult := clampTo 4 255 mult
    per16 := match c with
      | .mem => clampTo 0 255 per16
      | .cfg => 0 }

/-- Whether settling changed a value the host supplied; the PER16 of the CFG class is disregarded (R53). -/
def limitsChanged (c : RequestClass) (floor ceil mult per16 : Nat) : Bool :=
  let l := settleLimits c floor ceil mult per16
  l.floor != floor || l.ceil != ceil || l.mult != mult ||
    (match c with
      | .mem => l.per16 != per16
      | .cfg => false)

/-! ### SET MONITOR (R73) -/

/-- The four settings brought into range (R73). -/
def settleMonitor (stall err stray decay : Nat) : MonitorRecord :=
  { stallLimit := clampTo 100 65535 stall
    errThresh := clampTo 1 255 err
    strayThresh := clampTo 1 255 stray
    decay := clampTo 0 15 decay }

/-- Whether settling changed a setting (R73). -/
def monitorChanged (stall err stray decay : Nat) : Bool :=
  let m := settleMonitor stall err stray decay
  m.stallLimit != stall || m.errThresh != err || m.strayThresh != stray || m.decay != decay

/-! ### LOAD STEP (R141) -/

/-- An offset brought into range: at most 4092, and a multiple of 4 (R101, R141). -/
def settleOffset (n : Nat) : Nat := (min 4092 n) / 4 * 4

/-- The step a LOAD STEP kind and its fields give, settled; none for a kind not of R140. -/
def settleStep (kind : Nat) (p1 p2 p3 p4 : Dword) : Option Step :=
  let off : Offset := BitVec.ofNat 12 (settleOffset p1.toNat)
  match kind with
  | 0 => some (.write off (p2.extractLsb' 0 4) p3)
  | 1 => some (.verify off p2 p3)
  | 2 => some (.poll off p2 p3 (clampTo 1 1000 p4.toNat))
  | 3 => some (.pause (clampTo 1 1000 p4.toNat))
  | _ => none

/-- Whether settling changed a field the kind uses (R141). -/
def stepChanged (kind : Nat) (p1 p4 : Dword) : Bool :=
  match kind with
  | 0 => settleOffset p1.toNat != p1.toNat
  | 1 => settleOffset p1.toNat != p1.toNat
  | 2 => settleOffset p1.toNat != p1.toNat || clampTo 1 1000 p4.toNat != p4.toNat
  | 3 => clampTo 1 1000 p4.toNat != p4.toNat
  | _ => false

/-- The response of LOAD STEP: the step in the parameter layout, a field its kind does not use as 0 (log 22). -/
def stepDwords (k : Nat) : Step → List Dword
  | .write off be v => [place 0 8 k ||| place 8 8 0, dwordOf off.toNat, dwordOf be.toNat, v, 0]
  | .verify off m x => [place 0 8 k ||| place 8 8 1, dwordOf off.toNat, m, x, 0]
  | .poll off m x l => [place 0 8 k ||| place 8 8 2, dwordOf off.toNat, m, x, dwordOf l]
  | .pause u => [place 0 8 k ||| place 8 8 3, 0, 0, 0, dwordOf u]

/-! ### SET PLAN (R101, R177) -/

/-- The level a code names; 0 and the codes above 3 name none (R177). -/
def levelOf? : Nat → Option Level
  | 1 => some .function
  | 2 => some .slot
  | 3 => some .power
  | _ => none

/-- The style a code names (R177). -/
def styleOf? : Nat → Option AnswerStyle
  | 0 => some .ones
  | 1 => some .abort
  | _ => none

/-- The retire action a code names (R177). -/
def retireOf? : Nat → Option RetireAction
  | 0 => some .holdReset
  | 1 => some .powerOff
  | _ => none

/-- The numbers of a plan as the parameter dwords give them (R177). -/
structure PlanNumbers where
  function   : Nat
  slot       : Nat
  power      : Nat
  offset     : Nat
  drain      : Nat
  assert     : Nat
  off        : Nat
  pwrgdLimit : Nat
  onSettle   : Nat
  linkLimit  : Nat
  settle     : Nat
  stepLimit  : Nat
  probation  : Nat
deriving DecidableEq, Repr

/-- The function reset write is present (R177). -/
def planHasReset (s : State) : Bool := bit (s.param 0) 8

/-- The numbers of the plan in P0 to P7 (R177); without a function reset write there is no offset (log 22). -/
def planNumbers (s : State) : PlanNumbers :=
  { function := field (s.param 0) 12 3
    slot := field (s.param 0) 16 3
    power := field (s.param 0) 20 3
    offset := if planHasReset s then field (s.param 1) 16 16 else 0
    drain := field (s.param 3) 0 16
    assert := field (s.param 3) 16 16
    off := field (s.param 4) 0 16
    pwrgdLimit := field (s.param 4) 16 16
    onSettle := field (s.param 5) 0 16
    linkLimit := field (s.param 5) 16 16
    settle := field (s.param 6) 0 16
    stepLimit := field (s.param 6) 16 16
    probation := field (s.param 7) 0 16 }

/-- Every number brought to the nearer end of its range (R100, R101 step 2). -/
def PlanNumbers.settleAll (n : PlanNumbers) : PlanNumbers :=
  { function := clampTo 1 7 n.function
    slot := clampTo 1 7 n.slot
    power := clampTo 1 7 n.power
    offset := settleOffset n.offset
    drain := clampTo 0 255 n.drain
    assert := clampTo 1 1000 n.assert
    off := clampTo 10 10000 n.off
    pwrgdLimit := clampTo 1 1000 n.pwrgdLimit
    onSettle := clampTo 1 1000 n.onSettle
    linkLimit := clampTo 10 5000 n.linkLimit
    settle := clampTo 0 1000 n.settle
    stepLimit := clampTo 1 1000 n.stepLimit
    probation := clampTo 0 60000 n.probation }

/-- The level START LEVEL names is available under the settled plan (R100, R101 step 3). -/
def startAvailable (powerControl hasReset : Bool) : Level → Bool
  | .function => hasReset
  | .slot => true
  | .power => powerControl

/-- The settled plan, or none where it cannot be used: PLAN_INVALID (R101 step 3, R177). -/
def settlePlan (s : State) (powerControl : Bool) : Option Plan :=
  let n := (planNumbers s).settleAll
  match levelOf? (field (s.param 0) 0 2), styleOf? (field (s.param 0) 2 2), retireOf? (field (s.param 0) 4 2) with
  | some start, some style, some action =>
    if field (s.param 1) 8 8 ≠ 0 then none
    else if !startAvailable powerControl (planHasReset s) start then none
    else if action = .powerOff ∧ powerControl = false then none
    else
      some
        { startLevel := start
          attempts := { function := n.function, slot := n.slot, power := n.power }
          functionReset :=
            if planHasReset s then some { offset := BitVec.ofNat 12 n.offset, data := s.param 2 } else none
          autoCauses := (s.param 1).extractLsb' 0 8
          style := style
          drain := n.drain
          assert := n.assert
          off := n.off
          pwrgdLimit := n.pwrgdLimit
          onSettle := n.onSettle
          linkLimit := n.linkLimit
          settle := n.settle
          stepLimit := n.stepLimit
          probation := n.probation
          restoreOnRecovery := bit (s.param 0) 6
          restoreOnAdmit := bit (s.param 0) 7
          retireAction := action }
  | _, _, _ => none

/-- The code of a style (R177). -/
def AnswerStyle.number : AnswerStyle → Nat
  | .ones => 0
  | .abort => 1

/-- The code of a retire action (R177). -/
def RetireAction.number : RetireAction → Nat
  | .holdReset => 0
  | .powerOff => 1

/-- The response of SET PLAN: the record in the parameter layout (R101, R177). -/
def planDwords (p : Plan) : List Dword :=
  [place 0 2 p.startLevel.rank ||| place 2 2 p.style.number ||| place 4 2 p.retireAction.number |||
     placeBit 6 p.restoreOnRecovery ||| placeBit 7 p.restoreOnAdmit ||| placeBit 8 p.functionReset.isSome |||
     place 12 3 p.attempts.function ||| place 16 3 p.attempts.slot ||| place 20 3 p.attempts.power,
   place 0 8 p.autoCauses.toNat |||
     place 16 16 (match p.functionReset with
       | some w => w.offset.toNat
       | none => 0),
   match p.functionReset with
   | some w => w.data
   | none => 0,
   place 0 16 p.drain ||| place 16 16 p.assert,
   place 0 16 p.off ||| place 16 16 p.pwrgdLimit,
   place 0 16 p.onSettle ||| place 16 16 p.linkLimit,
   place 0 16 p.settle ||| place 16 16 p.stepLimit,
   place 0 16 p.probation]

/-! ### QUERY SLOT (R104, R177) -/

/-- The current step's main timer (R148). -/
def Slot.stepMainTimer (p : Slot) : UnitTimer :=
  match p.currentStep with
  | some (.write _ _ _) => p.exec.stepTimer
  | some (.verify _ _ _) => p.exec.stepTimer
  | some (.poll _ _ _ _) => p.exec.limitTimer
  | some (.pause _) => p.exec.pauseTimer
  | none => none

/-- The current timer of a slot, by its state and phase (R104). -/
def Slot.currentTimer (p : Slot) : UnitTimer :=
  match p.seq.state with
  | .draining => p.seq.drainTimer
  | .probation => p.seq.probationTimer
  | .recovering =>
    match p.seq.phase with
    | some .railWait => none
    | some .restoring => p.stepMainTimer
    | some _ => p.seq.phaseTimer
    | none => none
  | .empty => none
  | .offline => none
  | .online => none
  | .fenced => none
  | .retired => none

/-- The remaining units QUERY SLOT reports (R51, R104). -/
def Slot.remainingUnits (p : Slot) : Nat := reportUnits (p.currentTimer.getD 0)

/-- D0 of QUERY SLOT, which RECOVER answers too (R176, R177). -/
def Slot.queryDword (p : Slot) : Dword :=
  place 0 4 p.seq.state.number ||| place 4 4 (phaseNumber p.seq.phase) ||| place 8 2 (levelNumber p.seq.level) |||
    placeBit 12 p.seq.held ||| placeBit 13 p.script.commitPending ||| placeBit 14 p.script.capture |||
    placeBit 15 p.script.overflow ||| place 16 16 p.remainingUnits

/-- The number of a slot's entries in one entry state (R45). -/
def Slot.entriesIn (p : Slot) (st : EntryState) : Nat := p.traffic.ort.countP fun e => e.state == st

/-- The response of QUERY SLOT (R177). -/
def Slot.queryDwords (p : Slot) : List Dword :=
  [p.queryDword,
   place 0 4 p.seq.attempts.function ||| place 4 4 p.seq.attempts.slot ||| place 8 4 p.seq.attempts.power |||
     place 16 5 p.traffic.sendQueue.length,
   place 0 8 (p.entriesIn .live) ||| place 8 8 (p.entriesIn .fenced) ||| place 16 8 (p.entriesIn .answering) |||
     place 24 8 (p.entriesIn .tombstone)]

/-! ### READ INCIDENT and READ COUNTERS (R161, R178) -/

/-- The code of an incident kind (R178). -/
def IncidentKind.number : IncidentKind → Nat
  | .fault => 0
  | .admission => 1

/-- The code of a snapshot's kind (R178). -/
def SnapshotTarget.number : SnapshotTarget → Nat
  | .memRead _ => 0
  | .cfgRead _ => 1
  | .cfgWrite _ => 2

/-- D8 and D9 of a snapshot: address low and high, or the offset and 0 (R178). -/
def SnapshotTarget.dwords : SnapshotTarget → List Dword
  | .memRead a => [lowDword a, highDword a]
  | .cfgRead off => [dwordOf off.toNat, 0]
  | .cfgWrite off => [dwordOf off.toNat, 0]

/-- D7 to D10 of a record (R178): 0 when the snapshot is absent. -/
def snapshotDwords : Option Snapshot → List Dword
  | some sn =>
    [place 0 2 sn.target.number ||| place 8 8 sn.tag.toNat ||| place 16 16 sn.requester.toNat] ++
      sn.target.dwords ++ [place 0 16 sn.age]
  | none => [0, 0, 0, 0]

/-- The response of READ INCIDENT (R178). -/
def Incident.dwords (r : Incident) : List Dword :=
  [place 0 16 r.sequence.toNat ||| place 16 2 r.slot.toNat ||| place 18 1 r.kind.number |||
     place 20 4 r.firstCause.number ||| place 24 4 r.outcome.number ||| place 28 2 (levelNumber r.highest),
   place 0 8 r.further.toNat ||| place 8 2 r.tripState.number ||| place 12 3 r.attempts.function |||
     place 16 3 r.attempts.slot ||| place 20 3 r.attempts.power ||| place 24 6 r.view.liveCount |||
     placeBit 30 r.view.snapshot.isSome ||| placeBit 31 r.closeTime.isSome,
   r.openTime,
   r.closeTime.getD 0,
   place 0 16 r.view.memEst ||| place 16 16 r.view.cfgEst,
   place 0 16 r.synthetic ||| place 16 16 r.dropped,
   place 0 16 r.stale] ++ snapshotDwords r.view.snapshot

/-- The response of READ COUNTERS: the slot's eight counters in the order of R160, then the three of the part (R176). -/
def counterDwords (c : SlotCounters) (w : PartCounters) : List Dword :=
  [dwordOf c.forwarded, dwordOf c.synthetic, dwordOf c.stale, dwordOf c.stray, dwordOf c.droppedCardRequests,
   dwordOf c.droppedWrites, dwordOf c.duplicateKeys, dwordOf c.trips,
   dwordOf w.unrouted, dwordOf w.rights, dwordOf w.notices]

end Sys2Proof.Machine
end

