-- ==== Sys2Proof/Machine/Mailbox.lean ====
section
/-! DEFINITION. The configuration space at target 7 and the mailbox: reads, writes, the GO, and how a command begins,
is refused and completes (R167 to R171). -/

namespace Sys2Proof.Machine

/-! ### The space (R167, R168) -/

/-- What an offset of the space names. -/
inductive ConfigPlace where
  | partCode | slotCount | command | param (k : Fin 8) | go | status | response (k : Fin 16) | other
deriving DecidableEq, Repr

/-- The place of an offset (R167, R168). The rest of the identity header reads 0 as any other offset does. -/
def configPlace (off : Offset) : ConfigPlace :=
  let n := off.toNat
  if n = 0x000 then .partCode
  else if n = 0x004 then .slotCount
  else if n = 0x100 then .command
  else if 0x104 ≤ n ∧ n ≤ 0x120 ∧ n % 4 = 0 then .param (Fin.ofNat 8 ((n - 0x104) / 4))
  else if n = 0x180 then .go
  else if n = 0x184 then .status
  else if 0x200 ≤ n ∧ n ≤ 0x23C ∧ n % 4 = 0 then .response (Fin.ofNat 16 ((n - 0x200) / 4))
  else .other

/-- The first dword of the identity header: part code 4B5Ah, revision 01h (R168). -/
def identityDword : Dword := 0x00014B5A

/-- The second dword of the identity header: four slots and the strap image (R168). -/
def State.strapDword (s : State) : Dword :=
  place 0 8 4 ||| placeBit 8 (s.slot .s0).lines.powerControl ||| placeBit 9 (s.slot .s1).lines.powerControl |||
    placeBit 10 (s.slot .s2).lines.powerControl ||| placeBit 11 (s.slot .s3).lines.powerControl

/-- The dword a CONFIG READ of the space carries (R167). -/
def State.readConfig (s : State) (off : Offset) : Dword :=
  match configPlace off with
  | .partCode => identityDword
  | .slotCount => s.strapDword
  | .command => s.mailbox.command
  | .param k => s.mailbox.params[k]
  | .go => 0
  | .status => s.mailbox.status
  | .response k => s.mailbox.response[k]
  | .other => 0

/-- A CONFIG WRITE of the space that is no GO: the enabled bytes of the command dword or a parameter dword are replaced;
at any other place it is ignored (R167). -/
def Mailbox.writeArea (m : Mailbox) (off : Offset) (be : ByteEnables) (data : Dword) : Mailbox :=
  match configPlace off with
  | .command => { m with command := mergeBytes be m.command data }
  | .param k => { m with params := m.params.set k (mergeBytes be m.params[k] data) }
  | .partCode => m
  | .slotCount => m
  | .go => m
  | .status => m
  | .response _ => m
  | .other => m

/-- The Management Function answers a configuration request, with status OK, and holds the answer (R167, R169). -/
def State.giveAnswer (s : State) (r : Requester) (t : Tag) (data : Option Dword) : State :=
  { s with waitingAnswer := some { requester := r, tag := t, data := data } }.present

/-- The ingress head has been taken (R3). -/
def State.clearHead (s : State) : State := { s with head := none }

/-! ### The GO (R170) -/

/-- A CONFIG WRITE to offset 180h with a byte enable set (R170). -/
def isGo (off : Offset) (be : ByteEnables) : Bool := configPlace off == .go && be != 0

/-- A GO that is taken: the command area is copied, the response is zeroed, GO_LOST cleared, the code recorded, the
state BUSY (R170). The result code stands until the command completes. DEDUCED (log 35), unsafe. -/
def Mailbox.startGo (m : Mailbox) : Mailbox :=
  { m with
    state := .busy
    goLost := false
    code := m.command.extractLsb' 0 8
    response := Vector.replicate 16 0
    copyCommand := m.command
    copyParams := m.params }

/-- The mailbox of the part takes a GO. -/
def State.startGo (s : State) : State := { s with mailbox := s.mailbox.startGo }

/-- A GO that finds BUSY: GO_LOST is set and nothing else changes (R170). -/
def State.loseGo (s : State) : State := { s with mailbox := { s.mailbox with goLost := true } }

/-- What a command has come to: the state after its effect, its result, and the response dwords it fills from D0 on. -/
structure Reply where
  state  : State
  result : Result
  data   : List Dword

/-- The sixteen response dwords of a reply; those it does not fill are 0 (R170). -/
def responseOf (l : List Dword) : Vector Dword 16 := Vector.ofFn fun k => l.getD k.val 0

/-- A command completes: response, result code and DONE (R170). -/
def Reply.complete (r : Reply) : State :=
  { r.state with
    mailbox := { r.state.mailbox with state := .done, result := r.result, response := responseOf r.data } }

/-- A refused command changes no state beyond the status, and its response dwords are all 0 (R171). -/
def State.refuse (s : State) (code : Result) : Reply := { state := s, result := code, data := [] }

/-- A command done as asked, or with values brought into range. -/
def State.done (s : State) (code : Result) (data : List Dword) : Reply := { state := s, result := code, data := data }

/-- The slot check of R171: a slot field above 3 is refused with BAD_SLOT. -/
def State.withSlot (s : State) (f : SlotId → Reply) : Reply :=
  match SlotId.ofNat? (slotField s.mailbox.copyCommand) with
  | some i => f i
  | none => s.refuse .badSlot

/-- The requester and tag of an ingress head that is a GO and can be taken: the Management Function holds no waiting
answer (R4, R170). -/
def State.goHead (s : State) : Option (Requester × Tag) :=
  match s.head with
  | some { tx := .cfgWrite r t _ off be _, dest := .management } =>
    if isGo off be && s.waitingAnswer.isNone then some (r, t) else none
  | _ => none

/-- The GO at the ingress head is taken and answered, and its command starts (R170). -/
def State.beginGo (s : State) (r : Requester) (t : Tag) : State := (s.clearHead.giveAnswer r t none).startGo

/-- The event of one mailbox command: a GO at the ingress head that finds the mailbox not BUSY and the command dword
with this code is taken, and the command takes effect (log 15). -/
def State.runGo (s : State) (code : Nat) (effect : State → State) : State :=
  match s.goHead with
  | some (r, t) =>
    if s.mailbox.state ≠ .busy ∧ commandCode s.mailbox.command = code then effect (s.beginGo r t) else s
  | none => s

end Sys2Proof.Machine
end

