-- ==== Sys2Proof/Machine/Commands.lean ====
section
/-! DEFINITION. The mailbox commands of R176. Each acts on the state its GO has started, with the slot field and the
parameters of the copy made then, and gives its result and response. -/

namespace Sys2Proof.Machine

/-! ### Tables (chapters 1, 3, 4) -/

/-- SET WINDOW's effect (R9). -/
def State.setWindow (s : State) : Reply :=
  s.withSlot fun i =>
    let index := field (s.param 0) 0 8
    if 16 ≤ index then s.refuse .badIndex
    else
      let base := addressOf (s.param 1) (s.param 2)
      let limit := addressOf (s.param 3) (s.param 4)
      let settled := settleRange base limit
      let w : Window :=
        { valid := bit (s.param 0) 8, base := settled.1, limit := settled.2, slot := i,
          readRight := bit (s.param 0) 9, writeRight := bit (s.param 0) 10 }
      { s with windowStaging := s.windowStaging.setIfInBounds index w }.done
        (okOrClamped (settled.1 != base || settled.2 != limit)) (windowDwords index w)

/-- SET_WINDOW (R9). -/
def execSetWindow (s : State) : Host.Outcome State Fault Refusal := .next (s.runGo 0x01 fun t => t.setWindow.complete)

/-- COMMIT WINDOWS' effect (R10). -/
def State.commitWindows (s : State) : Reply := { s with windowActive := s.windowStaging }.done .ok []

/-- COMMIT_WINDOWS (R10). -/
def execCommitWindows (s : State) : Host.Outcome State Fault Refusal :=
  .next (s.runGo 0x02 fun t => t.commitWindows.complete)

/-- SET SLOT BUS' effect (R11). -/
def State.setSlotBus (s : State) : Reply :=
  s.withSlot fun i =>
    let bus := clampTo 0 255 (s.param 0).toNat
    { s with slotBus := s.slotBus.set i (BitVec.ofNat 8 bus) }.done (okOrClamped (bus != (s.param 0).toNat)) [dwordOf bus]

/-- SET_SLOT_BUS (R11). -/
def execSetSlotBus (s : State) : Host.Outcome State Fault Refusal := .next (s.runGo 0x03 fun t => t.setSlotBus.complete)

/-- SET PLAN's effect (R101): the record is replaced, the sample in force is not. -/
def State.setPlan (s : State) : Reply :=
  s.withSlot fun i =>
    match settlePlan s (s.slot i).lines.powerControl with
    | none => s.refuse .planInvalid
    | some p =>
      (s.modSlot i fun q => { q with seq := { q.seq with plan := p } }).done
        (okOrClamped ((planNumbers s).settleAll != planNumbers s)) (planDwords p)

/-- SET_PLAN (R101). -/
def execSetPlan (s : State) : Host.Outcome State Fault Refusal := .next (s.runGo 0x08 fun t => t.setPlan.complete)

/-- SET LIMITS' effect (R53): the record is written and the class's estimator reset. -/
def State.setLimits (s : State) : Reply :=
  s.withSlot fun i =>
    match classOf? (s.param 0).toNat with
    | none => s.refuse .badIndex
    | some c =>
      let l := settleLimits c (s.param 1).toNat (s.param 2).toNat (s.param 3).toNat (s.param 4).toNat
      (s.modSlot i fun p => { p with deadlines := p.deadlines.setLimits c l }).done
        (okOrClamped (limitsChanged c (s.param 1).toNat (s.param 2).toNat (s.param 3).toNat (s.param 4).toNat))
        [dwordOf l.floor, dwordOf l.ceil, dwordOf l.mult, dwordOf l.per16]

/-- SET_LIMITS (R53). -/
def execSetLimits (s : State) : Host.Outcome State Fault Refusal := .next (s.runGo 0x09 fun t => t.setLimits.complete)

/-- SET MONITOR's effect (R73): a count above the new STALL_LIMIT is lowered to it. -/
def State.setMonitor (s : State) : Reply :=
  s.withSlot fun i =>
    let m := settleMonitor (s.param 0).toNat (s.param 1).toNat (s.param 2).toNat (s.param 3).toNat
    (s.modSlot i fun p =>
        { p with detect := { p.detect with monitor := m, stallCount := min p.detect.stallCount m.stallLimit } }).done
      (okOrClamped (monitorChanged (s.param 0).toNat (s.param 1).toNat (s.param 2).toNat (s.param 3).toNat))
      [dwordOf m.stallLimit, dwordOf m.errThresh, dwordOf m.strayThresh, dwordOf m.decay]

/-- SET_MONITOR (R73). -/
def execSetMonitor (s : State) : Host.Outcome State Fault Refusal := .next (s.runGo 0x0A fun t => t.setMonitor.complete)

/-- SET VISIT's effect (R72): the interval in progress runs on. -/
def State.setVisit (s : State) : Reply :=
  let v := clampTo 16 4095 (s.param 0).toNat
  { s with health := { s.health with visit := v } }.done (okOrClamped (v != (s.param 0).toNat)) [dwordOf v]

/-- SET_VISIT (R72). -/
def execSetVisit (s : State) : Host.Outcome State Fault Refusal := .next (s.runGo 0x0B fun t => t.setVisit.complete)

/-- SET TIMEBASE's effect (R48): PRESCALE, used from the next tick; the response gives the tick counter too. -/
def State.setTimebase (s : State) : Reply :=
  let v := clampTo 9 65535 (s.param 0).toNat
  { s with time := { s.time with prescale := v } }.done (okOrClamped (v != (s.param 0).toNat)) [dwordOf v, s.time.now]

/-- SET_TIMEBASE (R48). -/
def execSetTimebase (s : State) : Host.Outcome State Fault Refusal :=
  .next (s.runGo 0x0C fun t => t.setTimebase.complete)

/-! ### Scripts (chapter 8) -/

/-- The script store of one slot changes. -/
def State.modScript (s : State) (i : SlotId) (f : ScriptStore → ScriptStore) : State :=
  s.modSlot i fun p => { p with script := f p.script }

/-- LOAD STEP's effect (R141). -/
def State.loadStep (s : State) : Reply :=
  s.withSlot fun i =>
    let index := field (s.param 0) 0 8
    let kind := field (s.param 0) 8 8
    if 64 ≤ index then s.refuse .badIndex
    else
      match settleStep kind (s.param 1) (s.param 2) (s.param 3) (s.param 4) with
      | none => s.refuse .badIndex
      | some st =>
        (s.modScript i fun sc => { sc with staging := sc.staging.setIfInBounds index st }).done
          (okOrClamped (stepChanged kind (s.param 1) (s.param 4))) (stepDwords index st)

/-- LOAD_STEP (R141). -/
def execLoadStep (s : State) : Host.Outcome State Fault Refusal := .next (s.runGo 0x10 fun t => t.loadStep.complete)

/-- SET SCRIPT LENGTH's effect (R142). -/
def State.setScriptLength (s : State) : Reply :=
  s.withSlot fun i =>
    let n := clampTo 0 Config.scriptSteps (s.param 0).toNat
    (s.modScript i fun sc => sc.setLength n).done (okOrClamped (n != (s.param 0).toNat)) [dwordOf n]

/-- SET_SCRIPT_LENGTH (R142). -/
def execSetScriptLength (s : State) : Host.Outcome State Fault Refusal :=
  .next (s.runGo 0x11 fun t => t.setScriptLength.complete)

/-- COMMIT SCRIPT's effect (R143): performed at once, or deferred to the end of RESTORING. -/
def State.commitScript (s : State) : Reply :=
  s.withSlot fun i =>
    if (s.slot i).script.commitPending then s.done .deferred []
    else if (s.slot i).seq.phase = some .restoring then
      (s.modScript i fun sc => { sc with commitPending := true }).done .deferred []
    else (s.modScript i ScriptStore.commit).done .ok []

/-- COMMIT_SCRIPT (R143). -/
def execCommitScript (s : State) : Host.Outcome State Fault Refusal :=
  .next (s.runGo 0x12 fun t => t.commitScript.complete)

/-- CAPTURE's effect (R144). -/
def State.setCapture (s : State) : Reply :=
  s.withSlot fun i =>
    (s.modScript i fun sc => { sc with capture := bit (s.param 0) 0, overflow := false }).done .ok []

/-- CAPTURE (R144). -/
def execCapture (s : State) : Host.Outcome State Fault Refusal := .next (s.runGo 0x13 fun t => t.setCapture.complete)

/-! ### The sequencer (chapters 4 and 6) -/

/-- What an admission's record holds of the ORT and the estimates: no LIVE entry, no snapshot (R156). -/
def Slot.admissionView (p : Slot) : TripView :=
  { liveCount := 0, snapshot := none, memEst := p.deadlines.memEst.est16 / 16, cfgEst := p.deadlines.cfgEst.est16 / 16 }

/-- The admission of a slot (R122): a plan sample, an ADMISSION incident, the bring-up. -/
def State.admitSlot (s : State) (i : SlotId) : State :=
  ((s.modSlot i Slot.takeSample).openIncident i .admission .admission 0 .offline (s.slot i).admissionView).beginAdmission i

/-- ADMIT's effect (R122, R75). -/
def State.admitCommand (s : State) : Reply :=
  s.withSlot fun i =>
    if (s.slot i).seq.state = .offline ∧ s.kill = false then
      (s.admitSlot i).done .ok [place 0 16 ((s.admitSlot i).slot i).current.sequence.toNat]
    else s.refuse .wrongState

/-- ADMIT (R122). -/
def execAdmit (s : State) : Host.Outcome State Fault Refusal := .next (s.runGo 0x18 fun t => t.admitCommand.complete)

/-- ISOLATE's effect (R76): a COMMANDED trip of a serving slot. -/
def State.isolate (s : State) : Reply :=
  s.withSlot fun i =>
    if (s.slot i).serving then
      (s.tripNow i .commanded).done .ok [place 0 16 ((s.tripNow i .commanded).slot i).current.sequence.toNat]
    else s.refuse .wrongState

/-- ISOLATE (R76). -/
def execIsolate (s : State) : Host.Outcome State Fault Refusal := .next (s.runGo 0x19 fun t => t.isolate.complete)

/-- The recovery of a FENCED slot by hand (R119): the ladder for a fault, the bring-up again for an admission. -/
def State.recoverSlot (s : State) (i : SlotId) : State :=
  match (s.slot i).current.kind with
  | .fault => s.startRecovery i
  | .admission => (s.modSlot i Slot.takeSample).beginAdmission i

/-- RECOVER's effect (R119, R75). -/
def State.recover (s : State) : Reply :=
  s.withSlot fun i =>
    if (s.slot i).seq.state = .fenced ∧ s.kill = false then
      (s.recoverSlot i).done .ok [((s.recoverSlot i).slot i).queryDword]
    else s.refuse .wrongState

/-- RECOVER (R119). -/
def execRecover (s : State) : Host.Outcome State Fault Refusal := .next (s.runGo 0x1A fun t => t.recover.complete)

/-- The slot is DRAINING, RECOVERING or PROBATION: HOLD and ABORT are taken (R116, R118). -/
def SlotState.inSequence : SlotState → Bool
  | .draining => true
  | .recovering => true
  | .probation => true
  | .empty => false
  | .offline => false
  | .online => false
  | .fenced => false
  | .retired => false

/-- HOLD's effect (R116). -/
def State.hold (s : State) : Reply :=
  s.withSlot fun i =>
    if (s.slot i).seq.state.inSequence then
      (s.modSlot i fun p => { p with seq := { p.seq with held := true } }).done .ok []
    else s.refuse .wrongState

/-- HOLD (R116). -/
def execHold (s : State) : Host.Outcome State Fault Refusal := .next (s.runGo 0x1B fun t => t.hold.complete)

/-- HELD is cleared and a withheld access is issued (R117). -/
def Slot.resume (p : Slot) : Slot := if p.exec.withheld then p.clearHeld.issue else p.clearHeld

/-- RESUME's effect (R117). -/
def State.resume (s : State) : Reply :=
  s.withSlot fun i =>
    if (s.slot i).seq.held then (s.modSlot i Slot.resume).done .ok [] else s.refuse .wrongState

/-- RESUME (R117). -/
def execResume (s : State) : Host.Outcome State Fault Refusal := .next (s.runGo 0x1C fun t => t.resume.complete)

/-- ABORT's effect (R118). -/
def State.abortCommand (s : State) : Reply :=
  s.withSlot fun i =>
    if (s.slot i).seq.state.inSequence then (s.abort i).done .ok [] else s.refuse .wrongState

/-- ABORT (R118). -/
def execAbort (s : State) : Host.Outcome State Fault Refusal := .next (s.runGo 0x1D fun t => t.abortCommand.complete)

/-- RETIRE's effect (R120): retirement by the plan record's action. -/
def State.retireCommand (s : State) : Reply :=
  s.withSlot fun i =>
    if (s.slot i).seq.state = .fenced then (s.retire i (s.slot i).seq.plan.retireAction).done .ok []
    else s.refuse .wrongState

/-- RETIRE (R120). -/
def execRetire (s : State) : Host.Outcome State Fault Refusal := .next (s.runGo 0x1E fun t => t.retireCommand.complete)

/-- The release of a slot (R121): OFFLINE, SLOT-RESET asserted, a PENDING incident ABORTED. -/
def State.releaseSlot (s : State) (i : SlotId) : State :=
  (s.modSlot i fun p => ((p.setState .offline).clearHeld).assertReset).closeIncident i .aborted

/-- RELEASE's effect (R121). -/
def State.releaseCommand (s : State) : Reply :=
  s.withSlot fun i =>
    if (s.slot i).seq.state = .fenced ∨ (s.slot i).seq.state = .retired then (s.releaseSlot i).done .ok []
    else s.refuse .wrongState

/-- RELEASE (R121). -/
def execRelease (s : State) : Host.Outcome State Fault Refusal := .next (s.runGo 0x1F fun t => t.releaseCommand.complete)

/-! ### Reading back (chapters 9 and 10) -/

/-- QUERY SLOT's effect: none but its response (R177). -/
def State.querySlot (s : State) : Reply := s.withSlot fun i => s.done .ok (s.slot i).queryDwords

/-- QUERY_SLOT (R177). -/
def execQuerySlot (s : State) : Host.Outcome State Fault Refusal := .next (s.runGo 0x20 fun t => t.querySlot.complete)

/-- READ INCIDENT's effect: none but its response (R159). -/
def State.readIncident (s : State) : Reply :=
  s.withSlot fun i =>
    match (s.param 0).toNat with
    | 0 => s.done .ok (s.slot i).current.dwords
    | 1 => s.done .ok (s.slot i).previous.dwords
    | _ => s.refuse .badIndex

/-- READ_INCIDENT (R159). -/
def execReadIncident (s : State) : Host.Outcome State Fault Refusal :=
  .next (s.runGo 0x21 fun t => t.readIncident.complete)

/-- A slot's eight counters become 0 (R161). -/
def State.clearSlotCounters (s : State) (i : SlotId) : State := s.modSlot i fun p => { p with counters := SlotCounters.zero }

/-- The part's three counters become 0 (R161). -/
def State.clearPartCounters (s : State) : State := { s with counters := PartCounters.zero }

/-- READ COUNTERS' effect (R161): the eleven counters are read, then cleared as the option says. -/
def State.readCounters (s : State) : Reply :=
  s.withSlot fun i =>
    let data := counterDwords (s.slot i).counters s.counters
    match (s.param 0).toNat with
    | 0 => s.done .ok data
    | 1 => (s.clearSlotCounters i).done .ok data
    | 2 => (s.clearSlotCounters i).clearPartCounters.done .ok data
    | _ => s.refuse .badIndex

/-- READ_COUNTERS (R161). -/
def execReadCounters (s : State) : Host.Outcome State Fault Refusal :=
  .next (s.runGo 0x22 fun t => t.readCounters.complete)

/-! ### Notices (chapter 9) -/

/-- An address with its two low bits cleared (R165). -/
def alignNotice (a : Address) : Address := a &&& ~~~ (3 : Address)

/-- The notice settings are written; the unsent notice is withdrawn, or one is queued, as they call for (R165). -/
def State.applyNotice (s : State) (address : Address) (enabled : Bool) : State :=
  let t := { s with notices := { s.notices with address := address, enabled := enabled } }
  if t.notices.armed then
    if t.notices.summary.isClear then t else t.queueNotice
  else t.withdrawNotice

/-- SET NOTICE's effect (R165). -/
def State.setNotice (s : State) : Reply :=
  let given := addressOf (s.param 0) (s.param 1)
  let a := alignNotice given
  let on := bit (s.param 2) 0
  (s.applyNotice a on).done (okOrClamped (a != given)) [lowDword a, highDword a, placeBit 0 on]

/-- SET_NOTICE (R165). -/
def execSetNotice (s : State) : Host.Outcome State Fault Refusal := .next (s.runGo 0x28 fun t => t.setNotice.complete)

/-- Summary bits are cleared; a clear summary withdraws the unsent notice, a set bit queues one (R164). -/
def State.acknowledge (s : State) (bits : Dword) : State :=
  let t := { s with notices := { s.notices with summary := s.notices.summary.acknowledge bits } }
  if t.notices.summary.isClear then t.withdrawNotice else t.queueNotice

/-- ACK NOTICES' effect (R164). -/
def State.ackNotices (s : State) : Reply :=
  (s.acknowledge (s.param 0)).done .ok [(s.acknowledge (s.param 0)).notices.summary.toDword]

/-- ACK_NOTICES (R164). -/
def execAckNotices (s : State) : Host.Outcome State Fault Refusal := .next (s.runGo 0x29 fun t => t.ackNotices.complete)

/-! ### RESET PART (R172) -/

/-- RESET PART's effect: the reset begins with the mailbox BUSY, and ends in the same event when nothing is owed. -/
def State.resetPart (s : State) : State := s.beginReset.settleReset

/-- RESET_PART (R172). -/
def execResetPart (s : State) : Host.Outcome State Fault Refusal := .next (s.runGo 0x3F State.resetPart)

/-! ### The code table (R176) and the GOs that run no command -/

/-- The effect of the command a code names, none for a code not listed in R176. -/
def commandEffect? : Nat → Option (State → State)
  | 0x01 => some fun t => t.setWindow.complete
  | 0x02 => some fun t => t.commitWindows.complete
  | 0x03 => some fun t => t.setSlotBus.complete
  | 0x08 => some fun t => t.setPlan.complete
  | 0x09 => some fun t => t.setLimits.complete
  | 0x0A => some fun t => t.setMonitor.complete
  | 0x0B => some fun t => t.setVisit.complete
  | 0x0C => some fun t => t.setTimebase.complete
  | 0x10 => some fun t => t.loadStep.complete
  | 0x11 => some fun t => t.setScriptLength.complete
  | 0x12 => some fun t => t.commitScript.complete
  | 0x13 => some fun t => t.setCapture.complete
  | 0x18 => some fun t => t.admitCommand.complete
  | 0x19 => some fun t => t.isolate.complete
  | 0x1A => some fun t => t.recover.complete
  | 0x1B => some fun t => t.hold.complete
  | 0x1C => some fun t => t.resume.complete
  | 0x1D => some fun t => t.abortCommand.complete
  | 0x1E => some fun t => t.retireCommand.complete
  | 0x1F => some fun t => t.releaseCommand.complete
  | 0x20 => some fun t => t.querySlot.complete
  | 0x21 => some fun t => t.readIncident.complete
  | 0x22 => some fun t => t.readCounters.complete
  | 0x28 => some fun t => t.setNotice.complete
  | 0x29 => some fun t => t.ackNotices.complete
  | 0x3F => some State.resetPart
  | _ => none

/-- A command code not listed is refused with UNKNOWN_COMMAND (R171). -/
def State.unknownCommand (s : State) : State := (s.refuse .unknownCommand).complete

/-- UNKNOWN_COMMAND (R171): a GO that finds the mailbox not BUSY and a code that is not listed. -/
def execUnknownCommand (s : State) : Host.Outcome State Fault Refusal :=
  .next <|
    match commandEffect? (commandCode s.mailbox.command) with
    | none => s.runGo (commandCode s.mailbox.command) State.unknownCommand
    | some _ => s

/-- GO_LOST (R170): a GO that finds the mailbox BUSY is answered, and GO_LOST is set. -/
def execGoLost (s : State) : Host.Outcome State Fault Refusal :=
  .next <|
    match s.goHead with
    | some (r, t) => if s.mailbox.state = .busy then (s.clearHead.giveAnswer r t none).loseGo else s
    | none => s

end Sys2Proof.Machine
end

