-- ==== Sys2Proof/Machine/Ingress.lean ====
section
/-! DEFINITION. Trunk ingress: INGRESS_CLASSIFY, INGRESS_TAKE and CONFIG_SPACE_WRITE (R3 to R14, R88, R167). -/

namespace Sys2Proof.Machine

/-! ### Classification (R3 to R8) -/

/-- The requester of a request. -/
def requesterOf : Transaction → Option Requester
  | .memRead r _ _ _ => some r
  | .memWrite r _ _ _ => some r
  | .cfgRead r _ _ _ => some r
  | .cfgWrite r _ _ _ _ _ => some r
  | .message _ _ => none
  | .answer _ _ _ _ _ _ => none

/-- The destination of a target number 0..3 or 7; 4, 5 and 6 are unrouted (R4, R5). -/
def targetDestination (t : Target) : Destination :=
  if t = 7 then .management
  else
    match SlotId.ofNat? t.toNat with
    | some i => .slot i
    | none => .unrouted

/-- The window's range contains an address, at both ends inclusive (R7). -/
def Window.contains (w : Window) (a : Nat) : Bool := decide (w.base.toNat ≤ a ∧ a ≤ w.limit.toNat)

/-- The matching window: the lowest-numbered valid one that contains the first byte (R7). -/
def State.matchingWindow (s : State) (a : Address) : Option Window :=
  s.windowActive.toList.find? fun w => w.valid && w.contains a.toNat

/-- The last byte a memory request touches, without wrap (R1, R7). -/
def lastByte (a : Address) (len : Nat) : Nat := a.toNat + 4 * len - 1

/-- A memory request by the Window Table and its rights (R7, R8). A last byte beyond the top of the address space lies
in no window. -/
def State.windowDestination (s : State) (a : Address) (len : Nat) (right : Window → Bool) : Destination :=
  match s.matchingWindow a with
  | none => .unrouted
  | some w =>
    if w.contains (lastByte a len) then
      if right w then .slot w.slot else .refused
    else .unrouted

/-- The bus number of a requester: bits 8 to 15. R1 and R6 give the two fields' widths and not their places; the worked
sequence of 02 section 2.9 sets bus number 03h beside requester 0300h. DEDUCED (log 36), unsafe. -/
def busOf (r : Requester) : BitVec 8 := r.extractLsb' 8 8

/-- A host answer by the Slot Bus table: the lowest-numbered slot with the bus number; 0 is unassigned (R6). -/
def State.busDestination (s : State) (r : Requester) : Destination :=
  if r = ownRequester then .unrouted
  else
    match SlotId.all.find? fun i => s.slotBus.get i == busOf r && s.slotBus.get i != 0 with
    | some i => .slot i
    | none => .unrouted

/-- The destination of a transaction (R3). -/
def State.classify (s : State) (tx : Transaction) : Destination :=
  if requesterOf tx = some ownRequester then .unrouted
  else
    match tx with
    | .memRead _ _ a len => s.windowDestination a len Window.readRight
    | .memWrite _ a len _ => s.windowDestination a len Window.writeRight
    | .cfgRead _ _ target _ => targetDestination target
    | .cfgWrite _ _ target _ _ _ => targetDestination target
    | .message .downstream target => targetDestination target
    | .message .upstream _ => .unrouted
    | .answer r _ _ _ _ _ => s.busDestination r

/-- INGRESS_CLASSIFY (R3, R21): with the trunk up and no head held, the transaction becomes the head and is classified
once. -/
def execIngressClassify (tx : Transaction) (s : State) : Host.Outcome State Fault Refusal :=
  .next <|
    if s.trunkUp && s.head.isNone then { s with head := some { tx := tx, dest := s.classify tx } } else s

/-! ### Taking (R12 to R14, R88, R167) -/

/-- Unrouted or refused traffic: a non-posted request is answered UNSUPPORTED once the SAQ has room, posted traffic is
discarded; either is counted when taken (R13). -/
def State.takeSynthetic (s : State) (tx : Transaction) (count : State → State) : State :=
  match unsupportedItem tx with
  | some item => if s.saqRoom then count (s.clearHead.appendSaq item) else s
  | none => count s.clearHead

/-- A head for a serving slot joins the Send Queue while it holds fewer than 16 entries (R12). -/
def State.takeServing (s : State) (i : SlotId) (tx : Transaction) : State :=
  if (s.slot i).traffic.sendQueue.length < Config.sendQueueEntries then
    s.clearHead.modSlot i fun p => { p with traffic := { p.traffic with sendQueue := p.traffic.sendQueue ++ [tx] } }
  else s

/-- A head for a non-serving slot goes to its containment path (R88): posted traffic is dropped and counted; a
non-posted request is answered in the slot's style once the SAQ has room and the Send Queue holds no non-posted entry. -/
def State.takeContained (s : State) (i : SlotId) (tx : Transaction) : State :=
  match (s.slot i).containmentItem tx with
  | none => s.clearHead.modSlot i fun p => p.countDroppedWrites 1
  | some item =>
    if s.saqRoom && !(s.slot i).traffic.sendQueue.any nonPosted then
      (s.clearHead.appendSaq item).modSlot i Slot.countSynthetic
    else s

/-- The command a GO starts runs (R170, R171, R176). -/
def State.runCommand (s : State) : State :=
  match commandEffect? (commandCode s.mailbox.copyCommand) with
  | some effect => effect s
  | none => s.unknownCommand

/-- A CONFIG WRITE of the space is applied (R167, R170). -/
def State.writeConfig (s : State) (off : Offset) (be : ByteEnables) (data : Dword) : State :=
  if isGo off be then
    if s.mailbox.state = .busy then s.loseGo else s.startGo.runCommand
  else { s with mailbox := s.mailbox.writeArea off be data }

/-- The Management Function takes a configuration request when it holds no waiting answer, and answers it in the same
event (R4, R167); it takes a message at once, without effect (R5). -/
def State.takeManagement (s : State) (tx : Transaction) : State :=
  match tx with
  | .cfgRead r t _ off =>
    if s.waitingAnswer.isNone then s.clearHead.giveAnswer r t (some (s.readConfig off)) else s
  | .cfgWrite r t _ off be data =>
    if s.waitingAnswer.isNone then (s.clearHead.giveAnswer r t none).writeConfig off be data else s
  | .memRead _ _ _ _ => s.clearHead
  | .memWrite _ _ _ _ => s.clearHead
  | .message _ _ => s.clearHead
  | .answer _ _ _ _ _ _ => s.clearHead

/-- INGRESS_TAKE (R3, R12, R13, R14): the head goes to the path its destination and the slot's state now call for, or is
held. -/
def execIngressTake (s : State) : Host.Outcome State Fault Refusal :=
  .next <|
    match s.head with
    | none => s
    | some h =>
      match h.dest with
      | .management => s.takeManagement h.tx
      | .slot i => if (s.slot i).serving then s.takeServing i h.tx else s.takeContained i h.tx
      | .unrouted => s.takeSynthetic h.tx State.countUnrouted
      | .refused => s.takeSynthetic h.tx State.countRights

/-- CONFIG_SPACE_WRITE (R167): the ingress head is a CONFIG WRITE to target 7 that is no GO, and is taken. -/
def execConfigSpaceWrite (s : State) : Host.Outcome State Fault Refusal :=
  .next <|
    match s.head with
    | some { tx := .cfgWrite r t _ off be data, dest := .management } =>
      if !isGo off be && s.waitingAnswer.isNone then (s.clearHead.giveAnswer r t none).writeConfig off be data else s
    | _ => s

end Sys2Proof.Machine
end

