-- ==== Sys2Proof/Machine/Dispatch.lean ====
section
/-! DEFINITION. One arm for each command: the call of its meaning. -/

namespace Sys2Proof.Machine

/-- The effect of a command on everything but the queue of commands. -/
def exec (i : Instr) (s : State) : Host.Outcome State Fault Refusal :=
  match i with
  | .powerOnReset pins => Sys2Proof.Machine.execPowerOnReset pins s
  | .trunkReset order => Sys2Proof.Machine.execTrunkReset order s
  | .ingressClassify tx => Sys2Proof.Machine.execIngressClassify tx s
  | .ingressTake => Sys2Proof.Machine.execIngressTake s
  | .configSpaceWrite => Sys2Proof.Machine.execConfigSpaceWrite s
  | .goLost => Sys2Proof.Machine.execGoLost s
  | .unknownCommand => Sys2Proof.Machine.execUnknownCommand s
  | .sendQueueDeparture slot => Sys2Proof.Machine.execSendQueueDeparture slot s
  | .duplicateKeyDisposal slot => Sys2Proof.Machine.execDuplicateKeyDisposal slot s
  | .containmentQueueAnswer slot => Sys2Proof.Machine.execContainmentQueueAnswer slot s
  | .slotLinkReceive slot tx => Sys2Proof.Machine.execSlotLinkReceive slot tx s
  | .receiveQueueTake slot linkRoom => Sys2Proof.Machine.execReceiveQueueTake slot linkRoom s
  | .egressGrant linkRoom => Sys2Proof.Machine.execEgressGrant linkRoom s
  | .expiry slot n => Sys2Proof.Machine.execExpiry slot n s
  | .fencedEntryAnswer slot => Sys2Proof.Machine.execFencedEntryAnswer slot s
  | .stallTrip slot => Sys2Proof.Machine.execStallTrip slot s
  | .healthVisit => Sys2Proof.Machine.execHealthVisit s
  | .correctedLinkError slot => Sys2Proof.Machine.execCorrectedLinkError slot s
  | .linkLoss slot => Sys2Proof.Machine.execLinkLoss slot s
  | .linkUp slot => Sys2Proof.Machine.execLinkUp slot s
  | .powerLoss slot => Sys2Proof.Machine.execPowerLoss slot s
  | .powerRise slot => Sys2Proof.Machine.execPowerRise slot s
  | .killAssert order => Sys2Proof.Machine.execKillAssert order s
  | .killDeassert => Sys2Proof.Machine.execKillDeassert s
  | .removal slot => Sys2Proof.Machine.execRemoval slot s
  | .insertion slot => Sys2Proof.Machine.execInsertion slot s
  | .drainTimerRunsOut slot => Sys2Proof.Machine.execDrainTimerRunsOut slot s
  | .executorAccessSend slot => Sys2Proof.Machine.execExecutorAccessSend slot s
  | .functionResetTimerRunsOut slot => Sys2Proof.Machine.execFunctionResetTimerRunsOut slot s
  | .functionResetReissue slot => Sys2Proof.Machine.execFunctionResetReissue slot s
  | .resetAssertTimerRunsOut slot => Sys2Proof.Machine.execResetAssertTimerRunsOut slot s
  | .linkWaitTimerRunsOut slot => Sys2Proof.Machine.execLinkWaitTimerRunsOut slot s
  | .settleTimerRunsOut slot => Sys2Proof.Machine.execSettleTimerRunsOut slot s
  | .powerOffTimerRunsOut slot => Sys2Proof.Machine.execPowerOffTimerRunsOut slot s
  | .pwrgdLimitRunsOut slot => Sys2Proof.Machine.execPwrgdLimitRunsOut slot s
  | .onSettleRunsOut slot => Sys2Proof.Machine.execOnSettleRunsOut slot s
  | .stepTimerRunsOut slot => Sys2Proof.Machine.execStepTimerRunsOut slot s
  | .stepReissue slot => Sys2Proof.Machine.execStepReissue slot s
  | .pollIntervalRunsOut slot => Sys2Proof.Machine.execPollIntervalRunsOut slot s
  | .pollLimitRunsOut slot => Sys2Proof.Machine.execPollLimitRunsOut slot s
  | .pauseRunsOut slot => Sys2Proof.Machine.execPauseRunsOut slot s
  | .probationTimerRunsOut slot => Sys2Proof.Machine.execProbationTimerRunsOut slot s
  | .setWindow => Sys2Proof.Machine.execSetWindow s
  | .commitWindows => Sys2Proof.Machine.execCommitWindows s
  | .setSlotBus => Sys2Proof.Machine.execSetSlotBus s
  | .setPlan => Sys2Proof.Machine.execSetPlan s
  | .setLimits => Sys2Proof.Machine.execSetLimits s
  | .setMonitor => Sys2Proof.Machine.execSetMonitor s
  | .setVisit => Sys2Proof.Machine.execSetVisit s
  | .setTimebase => Sys2Proof.Machine.execSetTimebase s
  | .loadStep => Sys2Proof.Machine.execLoadStep s
  | .setScriptLength => Sys2Proof.Machine.execSetScriptLength s
  | .commitScript => Sys2Proof.Machine.execCommitScript s
  | .capture => Sys2Proof.Machine.execCapture s
  | .admitSlot => Sys2Proof.Machine.execAdmit s
  | .isolate => Sys2Proof.Machine.execIsolate s
  | .recover => Sys2Proof.Machine.execRecover s
  | .hold => Sys2Proof.Machine.execHold s
  | .resume => Sys2Proof.Machine.execResume s
  | .abort => Sys2Proof.Machine.execAbort s
  | .retire => Sys2Proof.Machine.execRetire s
  | .release => Sys2Proof.Machine.execRelease s
  | .querySlot => Sys2Proof.Machine.execQuerySlot s
  | .readIncident => Sys2Proof.Machine.execReadIncident s
  | .readCounters => Sys2Proof.Machine.execReadCounters s
  | .setNotice => Sys2Proof.Machine.execSetNotice s
  | .ackNotices => Sys2Proof.Machine.execAckNotices s
  | .resetPart => Sys2Proof.Machine.execResetPart s
  | .resetPartEnd => Sys2Proof.Machine.execResetPartEnd s
  | .trunkUp => Sys2Proof.Machine.execTrunkUp s
  | .tickEnd => Sys2Proof.Machine.execTickEnd s

end Sys2Proof.Machine
end

