-- ==== Sys2Proof/Safety.lean ====
section
/-! DEFINITION. What claims are stated with: the invariants of the part, grouped by the chapter that gives them, and the
views of a mailbox command (the GO that starts it, the reply that ends it). -/

namespace Sys2Proof.Machine

/-! ### Invariants of the queues and tables (chapters 1, 2, 5, 8) -/

/-- The capacities of one slot's queues and copies (R15, R17, R22, R139). -/
abbrev Slot.Bounded (p : Slot) : Prop :=
  p.traffic.sendQueue.length ≤ 16 ∧ p.traffic.recvQueue.length ≤ 16 ∧ p.traffic.ort.length ≤ 32 ∧
    p.script.stagingLength ≤ 64 ∧ p.script.active.length ≤ 64

/-- Every capacity is kept (R15, R17, R22, R91, R139). -/
abbrev State.Bounded (s : State) : Prop := s.saq.length ≤ 64 ∧ ∀ i, (s.slot i).Bounded

/-- No two entries of one ORT share requester and tag, none share an entry number, and the numbers are 0..31 (R22). -/
abbrev Slot.OrtDistinct (p : Slot) : Prop :=
  (p.traffic.ort.map fun e => (e.requester, e.tag)).Nodup ∧ (p.traffic.ort.map Entry.number).Nodup ∧
    ∀ e ∈ p.traffic.ort, e.number < 32

/-- Every ORT's keys and numbers are distinct (R22). -/
abbrev State.OrtDistinct (s : State) : Prop := ∀ i, (s.slot i).OrtDistinct

/-- The items of the SAQ owned by entry `n` of slot `i`. -/
def State.itemsOf (s : State) (i : SlotId) (n : Nat) : List SaqItem :=
  s.saq.filter fun it => it.owner == some { slot := i, entry := n }

/-- The ANSWERING entries of slot `i` with number `n`. -/
def State.answering (s : State) (i : SlotId) (n : Nat) : List Entry :=
  (s.slot i).traffic.ort.filter fun e => e.number == n && e.state == .answering

/-- An entry is in ANSWERING exactly while one item of the SAQ names it as owner (R24, R38, R39, R91). -/
abbrev State.OwnersAnswering (s : State) : Prop :=
  ∀ i n, (s.itemsOf i n).length = (s.answering i n).length

/-- A head for the Management Function is a configuration request or a message (R3, R4, R5). -/
abbrev State.HeadOk (s : State) : Prop :=
  ∀ h, s.head = some h → h.dest = .management →
    (∃ r t g o, h.tx = .cfgRead r t g o) ∨ (∃ r t g o b d, h.tx = .cfgWrite r t g o b d) ∨
      ∃ d g, h.tx = .message d g

/-- A Send Queue held by the containment path has no posted head: each is dropped as it becomes the head (R87). -/
abbrev Slot.NoPostedHead (p : Slot) : Prop :=
  p.serving = false → ∀ tx, p.traffic.sendQueue.head? = some tx → nonPosted tx = true

/-- No contained Send Queue has a posted head (R87). -/
abbrev State.NoPostedHeads (s : State) : Prop := ∀ i, (s.slot i).NoPostedHead

/-! ### Invariants of the sequencer, the rails and the lines (chapters 6 and 7) -/

/-- The executor serves this phase (R147, R148). -/
def executorPhase : Option Phase → Bool
  | some .functionReset => true
  | some .restoring => true
  | _ => false

/-- The phase is one of those in which a slot holds its rail's grant (R132). -/
def grantPhase : Option Phase → Bool
  | some .powerOff => true
  | some .powerOn => true
  | _ => false

/-- What a slot holds fits its slot state (R99, R116, R146): a phase in RECOVERING alone, a current level in RECOVERING
and PROBATION alone, HELD in DRAINING, RECOVERING and PROBATION alone, each timer in its state alone, an access of the
executor in FUNCTION_RESET and RESTORING alone; RESET_RELEASE is never held (R106). -/
abbrev Slot.Shaped (p : Slot) : Prop :=
  (p.seq.phase.isSome = true ↔ p.seq.state = .recovering) ∧
  (p.seq.level.isSome = true ↔ p.seq.state = .recovering ∨ p.seq.state = .probation) ∧
  (p.seq.held = true → p.seq.state.inSequence = true) ∧
  (p.seq.drainTimer.isSome = true ↔ p.seq.state = .draining) ∧
  (p.seq.probationTimer.isSome = true ↔ p.seq.state = .probation) ∧
  (p.exec.inFlight.isSome = true → executorPhase p.seq.phase = true) ∧
  (p.exec.withheld = true → executorPhase p.seq.phase = true ∧ p.seq.held = true) ∧
  p.seq.phase ≠ some .resetRelease

/-- A rail's holder and waiting request are its own slots, in the phases that go with them; a slot waits only while its
partner holds (R129, R130, R132). -/
abbrev State.RailOk (s : State) (r : RailId) : Prop :=
  (∀ i, (s.rail r).holder = some i → i.rail = r) ∧
  (∀ i, (s.rail r).waiting = some i → i.rail = r ∧ (s.rail r).holder.isSome = true ∧ (s.rail r).holder ≠ some i)

/-- A slot holds its rail's grant in POWER_OFF and POWER_ON and in no other phase, and waits for it in RAIL_WAIT and in
no other (R129, R132). -/
abbrev State.GrantOk (s : State) (i : SlotId) : Prop :=
  (grantPhase (s.slot i).seq.phase = true ↔ (s.rail i.rail).holder = some i) ∧
  ((s.slot i).seq.phase = some .railWait ↔ (s.rail i.rail).waiting = some i)

/-- The sequencers and the Rail Arbiter agree (R99, R129, R132). -/
abbrev State.Sequenced (s : State) : Prop :=
  (∀ i, (s.slot i).Shaped) ∧ (∀ r, s.RailOk r) ∧ ∀ i, s.GrantOk i

/-- The lines fit the slot state (R127, R128, R134): EMPTY is PRESENT deasserted, with SLOT-RESET asserted and
POWER-ENABLE off; without power control POWER-ENABLE is off; RESET_ASSERT, POWER_OFF and POWER_ON hold the card in reset,
POWER_OFF without power and POWER_ON with it where the slot has power control. -/
abbrev Slot.Lined (p : Slot) : Prop :=
  (p.lines.present = false ↔ p.seq.state = .empty) ∧
  (p.seq.state = .empty → p.lines.slotReset = true ∧ p.lines.powerEnable = false) ∧
  (p.lines.powerControl = false → p.lines.powerEnable = false) ∧
  (p.seq.phase = some .resetAssert → p.lines.slotReset = true) ∧
  (p.seq.phase = some .powerOff → p.lines.slotReset = true ∧ p.lines.powerEnable = false) ∧
  (p.seq.phase = some .powerOn → p.lines.slotReset = true ∧ p.lines.powerEnable = p.lines.powerControl)

/-- The lines of every slot fit its state. -/
abbrev State.Lined (s : State) : Prop := ∀ i, (s.slot i).Lined

/-- While KILL is asserted no slot is ONLINE, PROBATION or RECOVERING (R74, R75). -/
abbrev State.Killed (s : State) : Prop :=
  s.kill = true → ∀ i, (s.slot i).serving = false ∧ (s.slot i).seq.state ≠ .recovering

/-- LIVE entries exist in ONLINE, PROBATION and DRAINING alone (R36), and a DRAINING slot holds at least one (R82, R84). -/
abbrev Slot.LiveFits (p : Slot) : Prop :=
  (0 < p.liveCount → p.serving = true ∨ p.seq.state = .draining) ∧ (p.seq.state = .draining → 0 < p.liveCount)

/-- The LIVE entries of every slot fit its state. -/
abbrev State.LiveFits (s : State) : Prop := ∀ i, (s.slot i).LiveFits

/-- No attempt count exceeds its level's ATTEMPTS in the sample in force, and the level of an attempt in progress has
one left (R102, R103). -/
abbrev Slot.WithinSample (p : Slot) : Prop :=
  (∀ l, p.seq.attempts.get l ≤ p.seq.sample.attempts.get l) ∧
    ∀ l, p.seq.level = some l → p.current.kind = .fault → p.seq.attempts.get l < p.seq.sample.attempts.get l

/-- Every slot's attempts are within its sample. -/
abbrev State.WithinSample (s : State) : Prop := ∀ i, (s.slot i).WithinSample

/-! ### Invariants of the records, the notice and the mailbox (chapters 9 and 10) -/

/-- A slot's current record is PENDING exactly in DRAINING, FENCED, RECOVERING and PROBATION, its previous record never;
the record's attempt counts are the sequencer's while it is PENDING, and the sequencer's are 0 otherwise (R79, R103, R155,
R157). -/
abbrev Slot.Recorded (p : Slot) : Prop :=
  (p.current.outcome = .pending ↔ p.seq.state = .fenced ∨ p.seq.state.inSequence = true) ∧
  p.previous.outcome ≠ .pending ∧
  (p.current.outcome = .pending → p.current.attempts = p.seq.attempts) ∧
  (p.current.outcome ≠ .pending → p.seq.attempts = PerLevel.all 0)

/-- The records of every slot fit its state. -/
abbrev State.Recorded (s : State) : Prop := ∀ i, (s.slot i).Recorded

/-- The Management Function presents what it holds, and holds a notice only with notices armed and a summary bit set
(R162, R163, R169). -/
abbrev State.Presents (s : State) : Prop :=
  (s.presenting = some .answer → s.waitingAnswer.isSome = true) ∧
  (s.presenting = some .notice → s.notices.unsent = true) ∧
  (s.presenting = none → s.waitingAnswer = none ∧ s.notices.unsent = false) ∧
  (s.notices.unsent = true → s.notices.armed = true ∧ s.notices.summary.isClear = false)

/-- The mailbox is BUSY exactly while a RESET PART is in progress, during which every slot is OFFLINE or EMPTY and
something is still owed (R170, R172). -/
abbrev State.BusyFits (s : State) : Prop :=
  (s.mailbox.state = .busy ↔ s.resetScope.isSome = true) ∧
  (s.resetScope.isSome = true →
    s.resetOwesNothing = false ∧ ∀ i, (s.slot i).seq.state = .offline ∨ (s.slot i).seq.state = .empty)

/-! ### Ranges (chapters 3, 4, 6, 9) -/

/-- A limits record in range (R52). -/
abbrev Limits.InRange (l : Limits) : Prop :=
  1 ≤ l.floor ∧ l.floor ≤ l.ceil ∧ l.ceil ≤ 65535 ∧ 4 ≤ l.mult ∧ l.mult ≤ 255 ∧ l.per16 ≤ 255

/-- An estimator in range (R54). -/
abbrev Estimator.InRange (e : Estimator) : Prop := e.est16 ≤ 1048560 ∧ e.samples ≤ 8

/-- A monitor record in range (R73). -/
abbrev MonitorRecord.InRange (m : MonitorRecord) : Prop :=
  100 ≤ m.stallLimit ∧ m.stallLimit ≤ 65535 ∧ 1 ≤ m.errThresh ∧ m.errThresh ≤ 255 ∧ 1 ≤ m.strayThresh ∧
    m.strayThresh ≤ 255 ∧ m.decay ≤ 15

/-- A plan record in range (R100). -/
abbrev Plan.InRange (p : Plan) : Prop :=
  (∀ l, 1 ≤ p.attempts.get l ∧ p.attempts.get l ≤ 7) ∧
  (∀ w, p.functionReset = some w → w.offset.toNat % 4 = 0) ∧
  p.drain ≤ 255 ∧ 1 ≤ p.assert ∧ p.assert ≤ 1000 ∧ 10 ≤ p.off ∧ p.off ≤ 10000 ∧ 1 ≤ p.pwrgdLimit ∧
  p.pwrgdLimit ≤ 1000 ∧ 1 ≤ p.onSettle ∧ p.onSettle ≤ 1000 ∧ 10 ≤ p.linkLimit ∧ p.linkLimit ≤ 5000 ∧ p.settle ≤ 1000 ∧
  1 ≤ p.stepLimit ∧ p.stepLimit ≤ 1000 ∧ p.probation ≤ 60000

/-- A plan that can be in force: in range, and with a START LEVEL and a RETIRE ACTION the slot allows (R100, R101). -/
abbrev Slot.PlanUsable (p : Slot) (q : Plan) : Prop :=
  q.InRange ∧ startAvailable p.lines.powerControl q.functionReset.isSome q.startLevel = true ∧
    (q.retireAction = .powerOff → p.lines.powerControl = true)

/-- The counters of a slot in range (R160). -/
abbrev SlotCounters.InRange (c : SlotCounters) : Prop :=
  c.forwarded ≤ 4294967295 ∧ c.synthetic ≤ 4294967295 ∧ c.stale ≤ 4294967295 ∧ c.stray ≤ 4294967295 ∧
  c.droppedCardRequests ≤ 4294967295 ∧ c.droppedWrites ≤ 4294967295 ∧ c.duplicateKeys ≤ 4294967295 ∧ c.trips ≤ 4294967295

/-- The part-wide counters in range (R160). -/
abbrev PartCounters.InRange (c : PartCounters) : Prop :=
  c.unrouted ≤ 4294967295 ∧ c.rights ≤ 4294967295 ∧ c.notices ≤ 4294967295

/-- What a record holds of the ORT and the Deadline Unit in range (R45, R60, R154). -/
abbrev TripView.InRange (v : TripView) : Prop :=
  v.liveCount ≤ 32 ∧ (∀ n ∈ v.snapshot, n.age ≤ 65535) ∧ v.memEst ≤ 65535 ∧ v.cfgEst ≤ 65535

/-- The numbers of an incident record in range (R154); its sequence number and its tick counts fill their widths. -/
abbrev Incident.InRange (r : Incident) : Prop :=
  r.view.InRange ∧ r.attempts.function ≤ 7 ∧ r.attempts.slot ≤ 7 ∧ r.attempts.power ≤ 7 ∧ r.synthetic ≤ 65535 ∧
  r.dropped ≤ 65535 ∧ r.stale ≤ 65535

/-- The settings, counters and records of one slot in range (R52, R54, R63, R68, R70, R73, R99 to R101, R154, R160). -/
abbrev Slot.InRange (p : Slot) : Prop :=
  p.deadlines.memLimits.InRange ∧ p.deadlines.cfgLimits.InRange ∧ p.deadlines.cfgLimits.per16 = 0 ∧
  p.deadlines.memEst.InRange ∧ p.deadlines.cfgEst.InRange ∧ p.detect.monitor.InRange ∧
  p.detect.stallCount ≤ 65535 ∧ p.detect.pendingErrors ≤ 255 ∧ p.detect.pendingStrays ≤ 255 ∧
  p.detect.errAcc ≤ 255 ∧ p.detect.strayAcc ≤ 255 ∧ p.PlanUsable p.seq.plan ∧ p.PlanUsable p.seq.sample ∧
  p.counters.InRange ∧ p.current.InRange ∧ p.previous.InRange

/-- The settings, counters and records of every slot and of the part in range (also R47, R69, R72). -/
abbrev State.InRange (s : State) : Prop :=
  (∀ i, (s.slot i).InRange) ∧ s.counters.InRange ∧ 9 ≤ s.time.prescale ∧ s.time.prescale ≤ 65535 ∧ 16 ≤ s.health.visit ∧
    s.health.visit ≤ 4095 ∧ s.health.visitTimer ≤ 4095

/-! ### The whole invariant -/

/-- Every invariant of this file at once: what every state the part can be in satisfies. -/
structure State.Sound (s : State) : Prop where
  bounded   : s.Bounded
  distinct  : s.OrtDistinct
  owners    : s.OwnersAnswering
  head      : s.HeadOk
  noPosted  : s.NoPostedHeads
  sequenced : s.Sequenced
  lined     : s.Lined
  killed    : s.Killed
  live      : s.LiveFits
  sample    : s.WithinSample
  recorded  : s.Recorded
  presents  : s.Presents
  busy      : s.BusyFits
  inRange   : s.InRange

/-! ### Debt to the host (R46) -/

/-- The entry is still owed an answer that is not yet made (R24). -/
def Entry.owed (e : Entry) : Bool := e.isLive || e.isFenced

/-- What one slot still owes the host: its non-posted Send Queue entries and its LIVE and FENCED entries. -/
def Slot.debt (p : Slot) : Nat := p.traffic.sendQueue.countP nonPosted + p.traffic.ort.countP Entry.owed

/-- How many non-posted requests of the host the part holds without having sent or staged their final answer (R46):
the ingress head, the slots' debts, the items of the SAQ and the waiting answer. -/
def State.debt (s : State) : Nat :=
  (match s.head with
    | some h => if nonPosted h.tx then 1 else 0
    | none => 0) +
  ((s.slot .s0).debt + (s.slot .s1).debt + (s.slot .s2).debt + (s.slot .s3).debt) + s.saq.length +
  (if s.waitingAnswer.isSome then 1 else 0)

/-! ### Mailbox commands (R170, R171, R176) -/

/-- A GO with this command code stands at the ingress head and can be taken: a CONFIG WRITE to offset 180h of target 7
with a byte enable set, no waiting answer, the mailbox not BUSY. `r` and `t` are its requester and tag. -/
def State.GoReady (s : State) (r : Requester) (t : Tag) (code : Nat) : Prop :=
  (∃ target be data, s.head = some { tx := .cfgWrite r t target 0x180 be data, dest := .management } ∧ be ≠ 0) ∧
    s.waitingAnswer = none ∧ s.mailbox.state ≠ .busy ∧ s.mailbox.command.toNat % 256 = code

/-- What every GO that is taken does, whatever its command (R170, R169): the head is taken and answered, the answer
presented unless a notice is; the command area is copied, the response zeroed, GO_LOST cleared, the code recorded, the
mailbox BUSY. -/
def State.afterGo (s : State) (r : Requester) (t : Tag) : State :=
  { s with
    head := none
    waitingAnswer := some { requester := r, tag := t, data := none }
    presenting := some (s.presenting.getD .answer)
    mailbox := { s.mailbox with
      state := .busy
      goLost := false
      code := BitVec.ofNat 8 s.mailbox.command.toNat
      response := Vector.replicate 16 0
      copyCommand := s.mailbox.command
      copyParams := s.mailbox.params } }

/-- The slot a command names: the slot field of the command dword is at most 3 (R171, R176). -/
def State.NamesSlot (s : State) (i : SlotId) : Prop := s.mailbox.command.toNat / 256 % 256 = i.toNat

/-- A command completes with a result and the response dwords it fills, D0 first (R170). -/
def State.finished (t : State) (result : Result) (data : List Dword) : State :=
  { t with mailbox := { t.mailbox with state := .done, result := result, response := responseOf data } }

/-- The state with one slot replaced. -/
def State.withSlotAt (s : State) (i : SlotId) (p : Slot) : State := { s with slots := s.slots.set i p }

/-- Nothing but one slot differs. -/
def State.SameBut (s t : State) (i : SlotId) : Prop := t = { s with slots := s.slots.set i (t.slot i) }

/-! ### The claims and the end of a management reset (R93, R172, R173) -/

/-- Commands taken one after another from `s`, none of which stops, lead to `t`. -/
def Runs : List Instr → State → State → Prop
  | [], s, t => t = s
  | c :: cs, s, t => ∃ u, exec c s = .next u ∧ Runs cs u t

/-- The command meets a claim of what a slot owes: a FENCED entry's or a contained Send Queue head's (R93). -/
def IsClaim (c : Instr) : Prop := ∃ i, c = .fencedEntryAnswer i ∨ c = .containmentQueueAnswer i

/-- A RESET PART is in progress, and no slot it waits for holds a FENCED entry or a Send Queue entry: the condition in
which it ends (R172). -/
def State.OwesNothing (s : State) : Prop :=
  ∃ scope, s.resetScope = some scope ∧ ∀ i, scope.get i = true →
    (∀ e ∈ (s.slot i).traffic.ort, e.state ≠ .fenced) ∧ (s.slot i).traffic.sendQueue = []

/-- A slot whose tables and policies have their power-on values again (R173). -/
def Slot.tablesRestored (p : Slot) : Slot :=
  { p with
    seq := { p.seq with plan := Plan.default }
    deadlines := DeadlineUnit.default
    detect := { p.detect with monitor := MonitorRecord.default }
    script := ScriptStore.default }

/-- A RESET PART has ended (R166, R173): tables, policies, scripts and notices have their power-on values, an unsent
notice is no longer presented, and the mailbox is DONE with OK and an empty response. -/
def State.resetEnded (s : State) : State :=
  { s with
    slots :=
      { s0 := s.slots.s0.tablesRestored, s1 := s.slots.s1.tablesRestored, s2 := s.slots.s2.tablesRestored
        s3 := s.slots.s3.tablesRestored }
    windowStaging := defaultWindows
    windowActive := defaultWindows
    slotBus := { s0 := 0, s1 := 0, s2 := 0, s3 := 0 }
    health := { s.health with visit := 250 }
    notices := Notices.default
    presenting :=
      if s.presenting = some .notice ∨ s.presenting = none then
        if s.waitingAnswer.isSome then some .answer else none
      else s.presenting
    resetScope := none
    mailbox := { s.mailbox with state := .done, result := .ok, response := Vector.replicate 16 0 } }

/-! ### Views of the sequencer's events (chapters 4 to 9) -/

/-- A slot's bit of the summary is set; where the summary was clear and notices are armed a notice is queued, and it is
presented unless something is, the waiting answer first (R162, R163, R169). -/
def State.bitRaised (s : State) (i : SlotId) : State :=
  let queued := s.notices.summary.isClear && s.notices.armed
  { s with
    notices := { s.notices with
      summary := { s.notices.summary with slots := s.notices.summary.slots.set i true }
      unsent := s.notices.unsent || queued }
    presenting :=
      if queued then some (s.presenting.getD (if s.waitingAnswer.isSome then .answer else .notice)) else s.presenting }

/-- Both gates of a slot close (R19, R64, R81, R87, R89): a card request in the stage is discarded and counted, in a
PENDING record too, and an answer there stays; the posted entries at the head of the Send Queue are dropped and counted;
no STALL trip is due any more. -/
def Slot.gatesClosed (p : Slot) : Slot :=
  let staged :=
    match p.traffic.stage with
    | some tx => !isAnswer tx
    | none => false
  { p with
    traffic := { p.traffic with
      stage := if staged then none else p.traffic.stage
      sendQueue := p.traffic.sendQueue.dropWhile fun tx => !nonPosted tx }
    counters := { p.counters with
      droppedCardRequests :=
        if staged then min 4294967295 (p.counters.droppedCardRequests + 1) else p.counters.droppedCardRequests
      droppedWrites :=
        min 4294967295 (p.counters.droppedWrites + (p.traffic.sendQueue.takeWhile fun tx => !nonPosted tx).length) }
    current :=
      if staged = true ∧ p.current.outcome = .pending then
        { p.current with dropped := min 65535 (p.current.dropped + 1) }
      else p.current
    detect := { p.detect with stallDue := false } }

/-- DRAINING is entered (R82): the gates close, the probation timer is discarded, the drain timer holds DRAIN of the plan
record. -/
def Slot.drainEntered (p : Slot) : Slot :=
  { p.gatesClosed with
    seq := { p.seq with
      state := .draining, level := none, probationTimer := none, drainTimer := some (1024 * p.seq.plan.drain) } }

/-- The ORT after fence-all (R40): every LIVE entry is FENCED. -/
def Slot.fencedOrt (p : Slot) : List Entry :=
  p.traffic.ort.map fun e => if e.state = .live then { e with state := .fenced } else e

/-- The ORT after tombstone clear (R41): no TOMBSTONE entry, and every FENCED and ANSWERING entry without keep-key. -/
def Slot.clearedOrt (p : Slot) : List Entry :=
  (p.traffic.ort.filter fun e => e.state != .tombstone).map fun e =>
    if e.state = .fenced ∨ e.state = .answering then { e with keepKey := false } else e

/-- The attempt in progress counts as failed (R112, R157): the count of the current level goes up by one, and the counts
of a PENDING record follow. -/
def Slot.attemptFailed (p : Slot) : Slot :=
  match p.seq.level with
  | none => p
  | some l =>
    let counts := p.seq.attempts.set l (min 7 (p.seq.attempts.get l + 1))
    { p with
      seq := { p.seq with attempts := counts }
      current := if p.current.outcome = .pending then { p.current with attempts := counts } else p.current }

/-- The record of a FAULT that a trip opens now (R45, R60, R154, R156). -/
def State.faultRecord (s : State) (i : SlotId) (c : FirstCause) (further : CauseSet) (view : TripView) : Incident :=
  { sequence := s.sequence + 1, kind := .fault, slot := i, firstCause := c, further := further, tripState := .online,
    openTime := s.time.now, view := view, highest := none, attempts := { function := 0, slot := 0, power := 0 },
    synthetic := 0, dropped := 0, stale := 0, outcome := .pending, closeTime := none }

/-- A serving slot trips (R77, R78, R82, R155): `q` is the slot after the cause's own effect. From ONLINE an incident
opens; in PROBATION the incident goes on, with the cause among its further causes, this trip's description, and for a
FAULT a failed attempt. The trip is counted, DRAINING is entered, and it ends at once with no LIVE entry or a DRAIN of
0. -/
def State.tripped (s : State) (i : SlotId) (q : Slot) (c : TripCause) (further : CauseSet) (view : TripView) : State :=
  let counted := { q.counters with trips := min 4294967295 (q.counters.trips + 1) }
  let t :=
    if q.seq.state = .online then
      { s.bitRaised i with sequence := s.sequence + 1 }.withSlotAt i
        ({ q with
          counters := counted, previous := q.current,
          current := s.faultRecord i (.trip c) further view } : Slot).drainEntered
    else
      let r : Slot :=
        { q with
          counters := counted
          current := if q.current.outcome = .pending then
              { q.current with further := q.current.further ||| c.mask ||| further, tripState := .probation, view := view }
            else q.current }
      s.withSlotAt i (match q.current.kind with
        | .fault => r.attemptFailed.drainEntered
        | .admission => r.drainEntered)
  if q.liveCount = 0 ∨ q.seq.plan.drain = 0 then t.endDraining i else t

/-- The sequence of a slot stops (R112, R118, R123 to R125, R143, R153): where RESTORING ends a deferred commit is
performed; the executor keeps nothing but its next tag; every timer is discarded; no phase is left. -/
def Slot.stopped (p : Slot) : Slot :=
  { p with
    script := if p.seq.phase = some .restoring ∧ p.script.commitPending = true then
        { p.script with active := p.script.staging.toList.take p.script.stagingLength, commitPending := false }
      else p.script
    exec :=
      { inFlight := none, withheld := false, nextTag := p.exec.nextTag, step := none, stepTimer := none,
        reissueTimer := none, intervalTimer := none, limitTimer := none, pauseTimer := none }
    seq := { p.seq with
      phase := none, drainTimer := none, phaseTimer := none, reissueTimer := none, probationTimer := none,
      pwrgdSeen := false } }

/-- A slot's incident closes (R103, R158): a PENDING record takes its outcome and close time and the summary bit is set;
the attempt counts are 0. -/
def State.closedAt (s : State) (i : SlotId) (o : IncidentOutcome) : State :=
  let p := s.slot i
  let seq := { p.seq with attempts := { function := 0, slot := 0, power := 0 } }
  if p.current.outcome = .pending then
    (s.bitRaised i).withSlotAt i
      { p with seq := seq, current := { p.current with outcome := o, closeTime := some s.time.now } }
  else s.withSlotAt i { p with seq := seq }

/-- A slot is retired under a retire action (R113). -/
def State.retiredAt (s : State) (i : SlotId) (action : RetireAction) : State :=
  let p := (s.slot i).stopped
  ((s.withSlotAt i
    { p with
      seq := { p.seq with state := .retired, level := none, held := false }
      lines := { p.lines with
        slotReset := true, powerEnable := if action = .powerOff then false else p.lines.powerEnable } }).releaseRail
    i).closedAt i .retired

/-- An admission fails (R123). -/
def State.admissionFailed (s : State) (i : SlotId) : State :=
  let p := (s.slot i).stopped
  ((s.withSlotAt i
    { p with
      seq := { p.seq with state := .offline, level := none, held := false }
      lines := { p.lines with slotReset := true, powerEnable := false } }).releaseRail i).closedAt i .failed

/-- A plan sample is taken (R102): a copy of the record; no attempt count stays above its ATTEMPTS, and a PENDING record's
counts follow. -/
def Slot.sampled (p : Slot) : Slot :=
  let a := p.seq.attempts
  let m := p.seq.plan.attempts
  let counts : PerLevel :=
    { function := min a.function m.function, slot := min a.slot m.slot, power := min a.power m.power }
  { p with
    seq := { p.seq with sample := p.seq.plan, attempts := counts }
    current := if p.current.outcome = .pending then { p.current with attempts := counts } else p.current }

/-- A level that can be called for (R100, R103): not below START LEVEL, available, with an attempt left. -/
def Slot.Callable (p : Slot) (l : Level) : Prop :=
  p.seq.sample.startLevel.rank ≤ l.rank ∧
    (l = .function → p.seq.sample.functionReset.isSome = true) ∧ (l = .power → p.lines.powerControl = true) ∧
    p.seq.attempts.get l < p.seq.sample.attempts.get l

/-- An attempt at a level has begun (R103): RECOVERING, the current level, the highest level of a PENDING record raised
to it. -/
def Slot.attempting (p : Slot) (l : Level) : Slot :=
  { p with
    seq := { p.seq with state := .recovering, level := some l }
    current := if p.current.outcome = .pending ∧ levelNumber p.current.highest < l.rank then
        { p.current with highest := some l }
      else p.current }

/-- A phase entered with its timer (R104). -/
def Slot.inPhase (p : Slot) (ph : Phase) (timer : UnitTimer) : Slot :=
  { p with seq := { p.seq with phase := some ph, phaseTimer := timer, reissueTimer := none, pwrgdSeen := false } }

/-- RESET_ASSERT entered (R106). -/
def Slot.inResetAssert (p : Slot) : Slot :=
  ({ p with
    lines := { p.lines with slotReset := true }
    traffic := { p.traffic with ort := p.clearedOrt } } : Slot).inPhase .resetAssert (some (1024 * p.seq.sample.assert))

/-- POWER_OFF entered (R109). -/
def Slot.inPowerOff (p : Slot) : Slot :=
  ({ p with
    lines := { p.lines with slotReset := true, powerEnable := false }
    traffic := { p.traffic with ort := p.clearedOrt } } : Slot).inPhase .powerOff (some (1024 * p.seq.sample.off))

/-- SETTLE entered (R108): the executor has stopped. -/
def Slot.inSettle (p : Slot) : Slot :=
  ({ p with exec :=
      { inFlight := none, withheld := false, nextTag := p.exec.nextTag, step := none, stepTimer := none,
        reissueTimer := none, intervalTimer := none, limitTimer := none, pauseTimer := none } } : Slot).inPhase .settle
    (some (1024 * p.seq.sample.settle))

/-- SETTLE is entered, and is complete at once when its time is 0 (R104, R108). -/
def State.settling (s : State) (i : SlotId) (p : Slot) : State :=
  let t := s.withSlotAt i p.inSettle
  if p.seq.sample.settle = 0 then t.settleDone i else t

/-- An access is issued (R104, R146, R152): it takes the next tag and is in flight; while HELD it is withheld. -/
def Slot.issuing (p : Slot) (a : AccessRequest) : Slot :=
  { p with exec := if p.seq.held then { p.exec with withheld := true } else
      { p.exec with
        inFlight := some { tag := p.exec.nextTag, request := a, onLink := false }
        withheld := false
        nextTag := p.exec.nextTag + 1 } }

/-- The step at a position starts (R148): its timer is loaded and its access, if it has one, issued. -/
def Slot.stepStarted (p : Slot) (k : Nat) (st : Step) : Slot :=
  let x : Executor :=
    { inFlight := none, withheld := false, nextTag := p.exec.nextTag, step := some k, stepTimer := none,
      reissueTimer := none, intervalTimer := none, limitTimer := none, pauseTimer := none }
  match st with
  | .write off be v =>
    ({ p with exec := { x with stepTimer := some (1024 * p.seq.sample.stepLimit) } } : Slot).issuing (.write off be v)
  | .verify off _ _ =>
    ({ p with exec := { x with stepTimer := some (1024 * p.seq.sample.stepLimit) } } : Slot).issuing (.read off)
  | .poll off _ _ limit => ({ p with exec := { x with limitTimer := some (1024 * limit) } } : Slot).issuing (.read off)
  | .pause n => { p with exec := { x with pauseTimer := some (1024 * n) } }

/-- PROBATION entered (R114). -/
def Slot.inProbation (p : Slot) : Slot :=
  { p.stopped with
    seq := { p.stopped.seq with state := .probation, probationTimer := some (1024 * p.seq.sample.probation) }
    deadlines := { p.deadlines with
      memEst := { est16 := 0, samples := 0 }, cfgEst := { est16 := 0, samples := 0 } }
    detect := { p.detect with
      pendingErrors := 0, pendingStrays := 0, errAcc := 0, strayAcc := 0, stallDue := false,
      stallCount := p.detect.monitor.stallLimit } }

/-- ONLINE entered from PROBATION (R115): the incident closes RECOVERED. -/
def State.wentOnline (s : State) (i : SlotId) : State :=
  let p := s.slot i
  (s.withSlotAt i
    { p with
      seq := { p.seq with state := .online, level := none, held := false, probationTimer := none }
      detect := { p.detect with stallCount := p.detect.monitor.stallLimit } }).closedAt i .recovered

/-- The last phase of an attempt is complete (R114): PROBATION, and ONLINE in the same event when its time is 0. -/
def State.probating (s : State) (i : SlotId) (p : Slot) : State :=
  let t := s.withSlotAt i p.inProbation
  if p.seq.sample.probation = 0 then t.wentOnline i else t

end Sys2Proof.Machine
end

