-- ==== Sys2Proof/Certificates/Slice0/Obligations.lean ====
section
/-! DEFINITION. The statements for the provers. Where a statement says what a command leaves unchanged, it does so by an
equation for the whole next state, or by saying that nothing but one slot differs (`State.SameBut`). -/

open Sys2Proof Sys2Proof.Machine

/-! ### The machine as a whole -/

/-- A step takes the command at the front of the queue and runs it on the state with the queue's rest; with nothing in
the queue the part idles (the model's choice, log 2). -/
def Obligations.StepTakesFrontCommand : Prop :=
  (∀ (s : State) (c : Instr) (rest : List Instr),
    s.pending = c :: rest → step s = exec c { s with pending := rest }) ∧
  ∀ s : State, s.pending = [] → step s = .next s

/-- Every command has a next state in every state, and touches no other command that waits: the manual describes no
event that stops the part. -/
def Obligations.CommandsNeverStop : Prop :=
  ∀ (c : Instr) (s : State), ∃ t, exec c s = .next t ∧ t.pending = s.pending

/-- POWER_ON_RESET gives every register, table, queue, count, timer, line and record its power-on value, the input lines
their levels (the operand, as is whether the trunk is up), and leaves the plan sample aside, which R99 calls undefined; that
an empty incident record reads slot S0 and state at trip ONLINE is the model's choice (log 26) (R10, R11, R15, R17, R19,
R20, R22, R47, R49, R52, R54, R63, R66, R68, R69, R73, R91, R99, R100, R126, R127, R128, R129, R133, R134, R139, R146, R154,
R155, R160, R162, R165, R167, R169, R170). -/
def Obligations.PowerOnResetValues : Prop :=
  ∀ (pins : PowerOnPins) (s : State), ∃ t,
    let window : Window :=
      { valid := false, base := 0, limit := 0xFFF, slot := .s0, readRight := false, writeRight := false }
    let noCounts : PerLevel := { function := 0, slot := 0, power := 0 }
    let empty : Incident :=
      { sequence := 0, kind := .fault, slot := .s0, firstCause := .trip .deadline, further := 0, tripState := .online,
        openTime := 0, view := { liveCount := 0, snapshot := none, memEst := 0, cfgEst := 0 }, highest := none,
        attempts := noCounts, synthetic := 0, dropped := 0, stale := 0, outcome := .none, closeTime := none }
    exec (.powerOnReset pins) s = .next t ∧ t.pending = s.pending ∧
    (∀ i,
      (t.slot i).seq =
        { state := if pins.present.get i then .offline else .empty, phase := none, level := none, attempts := noCounts,
          held := false, sample := (t.slot i).seq.sample, drainTimer := none, phaseTimer := none, reissueTimer := none,
          probationTimer := none, pwrgdSeen := false
          plan :=
            { startLevel := .slot, attempts := { function := 1, slot := 2, power := 1 }, functionReset := none,
              autoCauses := 0x3F, style := .ones, drain := 10, assert := 100, off := 1000, pwrgdLimit := 500,
              onSettle := 100, linkLimit := 1000, settle := 100, stepLimit := 50, probation := 5000,
              restoreOnRecovery := true, restoreOnAdmit := true, retireAction := .holdReset } } ∧
      (t.slot i).lines =
        { slotReset := true, powerEnable := false, powerControl := pins.straps.get i, pwrgd := pins.pwrgd.get i,
          present := pins.present.get i, linkUp := false } ∧
      (t.slot i).traffic = { sendQueue := [], recvQueue := [], stage := none, ort := [], linkSent := [] } ∧
      (t.slot i).deadlines =
        { memLimits := { floor := 1000, ceil := 40000, mult := 16, per16 := 8 }
          cfgLimits := { floor := 2000, ceil := 50000, mult := 16, per16 := 0 }
          memEst := { est16 := 0, samples := 0 }, cfgEst := { est16 := 0, samples := 0 } } ∧
      (t.slot i).detect =
        { monitor := { stallLimit := 20000, errThresh := 32, strayThresh := 8, decay := 1 }, stallCount := 20000,
          stallDue := false, pendingErrors := 0, pendingStrays := 0, errAcc := 0, strayAcc := 0 } ∧
      (t.slot i).script.stagingLength = 0 ∧ (t.slot i).script.active = [] ∧ (t.slot i).script.capture = false ∧
      (t.slot i).script.overflow = false ∧ (t.slot i).script.commitPending = false ∧
      (∀ k : Fin 64, (t.slot i).script.staging[k] = .pause 1) ∧
      (t.slot i).exec =
        { inFlight := none, withheld := false, nextTag := 0, step := none, stepTimer := none, reissueTimer := none,
          intervalTimer := none, limitTimer := none, pauseTimer := none } ∧
      (t.slot i).current = empty ∧ (t.slot i).previous = empty ∧
      (t.slot i).counters =
        { forwarded := 0, synthetic := 0, stale := 0, stray := 0, droppedCardRequests := 0, droppedWrites := 0,
          duplicateKeys := 0, trips := 0 }) ∧
    (∀ k : Fin 16, t.windowActive[k] = window ∧ t.windowStaging[k] = window) ∧
    (∀ i, t.slotBus.get i = 0) ∧ t.head = none ∧ t.trunkUp = pins.trunkUp ∧ t.saq = [] ∧ t.lastServed = .mgt ∧
    t.time = { prescale := 99, tickPrescale := 99, now := 0 } ∧
    t.health = { visit := 250, visitTimer := 250, nextSlot := .s0 } ∧
    t.kill = pins.kill ∧ t.railA = { holder := none, waiting := none } ∧ t.railB = { holder := none, waiting := none } ∧
    t.sequence = 0 ∧ (∀ i, t.notices.summary.slots.get i = false) ∧ t.notices.summary.killChange = false ∧
    t.notices.enabled = false ∧ t.notices.address = 0 ∧
    t.notices.unsent = false ∧ t.waitingAnswer = none ∧ t.presenting = none ∧ t.mailbox.state = .idle ∧
    t.mailbox.result = .ok ∧ t.mailbox.goLost = false ∧ t.mailbox.code = 0 ∧ t.mailbox.command = 0 ∧
    (∀ k : Fin 8, t.mailbox.params[k] = 0) ∧ (∀ k : Fin 16, t.mailbox.response[k] = 0) ∧ t.resetScope = none ∧
    t.counters = { unrouted := 0, rights := 0, notices := 0 }

/-- Power-on reset, with any input levels, leaves a sound state, and so does the model's reset state. That
state's input levels are the model's choice (log 4 and log 5), and so is the plan sample of every slot, whose ranges a
sound state's keeps to (log 6; R99 calls it undefined until it is taken). -/
def Obligations.PowerOnIsSound : Prop := (∀ pins, (State.powerOn pins).Sound) ∧ State.reset.Sound

/-! ### Invariants every step keeps -/

/-- No queue, table or copy ever exceeds its capacity, the head for the Management Function stays a transaction it can
take, and no contained Send Queue has a posted head. What the part holds of the following stays in its range: PRESCALE,
VISIT and the visit timer; limits, estimators, monitor records, plan records and plan samples; the Stall Monitor's count,
the pending counts and the accumulators; the counters of the slots and of the part; and the numbers of both incident
records of a slot (R4, R15, R17, R22, R47, R52, R54, R63, R68, R69, R70, R72, R73, R87, R91, R100, R101, R139, R154,
R160). -/
def Obligations.CapacitiesRangesAndHeadsKept : Prop :=
  ∀ s t : State, s.Sound → step s = .next t → t.Bounded ∧ t.InRange ∧ t.HeadOk ∧ t.NoPostedHeads

/-- No two entries of an ORT come to share a key or a number, and an entry is ANSWERING exactly while one item of the
SAQ names it. -/
def Obligations.OrtEntriesStayDistinct : Prop :=
  ∀ s t : State, s.Sound → step s = .next t → t.OrtDistinct ∧ t.OwnersAnswering

/-- Slot state, phase, level, HELD, the drain and probation timers, the executor's access and the rails stay consistent:
a phase exists in RECOVERING alone, a current level in RECOVERING and PROBATION alone, HELD and each timer where their
rules let them, an access in flight or withheld in FUNCTION_RESET and RESTORING alone, and a slot holds its rail's
grant, or waits for it, exactly in the phases that call for it (R82, R99, R104, R106, R114, R116, R129, R130, R131,
R132, R146, R147, R152). -/
def Obligations.SequencersStayConsistent : Prop :=
  ∀ s t : State, s.Sound → step s = .next t → t.Sequenced

/-- LIVE entries stay confined to ONLINE, PROBATION and DRAINING, and DRAINING never outlasts its last LIVE entry. -/
def Obligations.LiveEntriesFitStates : Prop :=
  ∀ s t : State, s.Sound → step s = .next t → t.LiveFits

/-- SLOT-RESET, POWER-ENABLE and PRESENT stay as the slot state and phase require, PRESENT being deasserted exactly in
EMPTY, and while KILL is asserted no slot is or becomes ONLINE, PROBATION or RECOVERING (R74, R75, R127, R128, R134, R135,
R137). -/
def Obligations.LinesAndKillFitStates : Prop :=
  ∀ s t : State, s.Sound → step s = .next t → t.Lined ∧ t.Killed

/-- A slot has a PENDING incident exactly in DRAINING, FENCED, RECOVERING and PROBATION, the attempt counts of its record
follow the sequencer's while it is PENDING, and no attempt count exceeds the ATTEMPTS of the sample in force (R79, R102,
R103, R155, R157, R158). -/
def Obligations.IncidentsFollowStates : Prop :=
  ∀ s t : State, s.Sound → step s = .next t → t.Recorded ∧ t.WithinSample

/-- The Management Function presents what it holds, and never holds a notice with a clear summary or unarmed; the mailbox
is BUSY exactly while a RESET PART that still owes answers is in progress. That a RESET PART in progress always still owes
answers, because its end lies in the event that answers the last owed request, is the model's reading (log 14)
(R162, R163, R169, R170, R172). -/
def Obligations.ManagementStaysConsistent : Prop :=
  ∀ s t : State, s.Sound → step s = .next t → t.Presents ∧ t.BusyFits

/-- No request of the host is lost: except in a trunk or power-on reset, a command lowers the debt by at most one, and
only by sending an answer on the trunk or placing a card's answer in an upstream stage; it raises it by at most one, and
only by letting a request in. The debt is a count, of the waiting answer of the Management Function too: it does not say
which request an answer belongs to (R24, R38, R46, R91, R167, R169). -/
def Obligations.NoRequestIsLost : Prop :=
  ∀ (c : Instr) (s t : State), s.Sound → (∀ order, c ≠ .trunkReset order) → (∀ pins, c ≠ .powerOnReset pins) →
    exec c s = .next t →
    (t.debt < s.debt →
      s.debt = t.debt + 1 ∧
        ((∃ a, isAnswer a = true ∧ t.trunkSent = s.trunkSent ++ [a]) ∨
          ∃ i a, isAnswer a = true ∧ (s.slot i).traffic.stage = none ∧ (t.slot i).traffic.stage = some a)) ∧
    (s.debt < t.debt → t.debt = s.debt + 1 ∧ ∃ tx, c = .ingressClassify tx ∧ nonPosted tx = true)

/-- Each grant brings every ready source that it does not serve nearer to its turn on the ring; a ring position is below
six, so a source that stays ready is granted within six grants. A slot is ready with its stage full, SYN while the SAQ
holds an item, and the Management Function while it presents a transaction (R20). -/
def Obligations.EgressServesWithinSix : Prop :=
  (∀ s : State,
    (∀ i, s.ready (.slot i) = true ↔ (s.slot i).traffic.stage ≠ none) ∧
    (s.ready .syn = true ↔ s.saq ≠ []) ∧ (s.ready .mgt = true ↔ s.presenting ≠ none)) ∧
  ∀ (s t : State) (room : Bool) (src : Source), s.trunkUp = true → s.ready src = true →
    exec (.egressGrant room) s = .next t →
    (ringAfter s.lastServed).idxOf src < 6 ∧
      (t.lastServed = src ∨
        (s.ready t.lastServed = true ∧
          (ringAfter t.lastServed).idxOf src < (ringAfter s.lastServed).idxOf src))

/-! ### Deadlines and estimates (chapter 3) -/

/-- R56: a sample moves EST16 by floor((16 L - EST16) / 8) and SAMPLES up to 8; the new EST16 lies between the old one and
16 L; a long run of equal samples reaches 16 L from above and stops at most seven sixteenths short of it from below. -/
def Obligations.EstimatorFollowsSamples : Prop :=
  (∀ (e : Estimator) (l : Nat), e.est16 ≤ 1048560 → l ≤ 65535 → e.samples ≤ 8 →
    ((e.sample l).est16 : Int) = e.est16 + (16 * (l : Int) - e.est16).fdiv 8 ∧
    (e.sample l).samples = (if e.samples = 8 then 8 else e.samples + 1) ∧
    min e.est16 (16 * l) ≤ (e.sample l).est16 ∧ (e.sample l).est16 ≤ max e.est16 (16 * l) ∧
    (e.sample l).est16 ≤ 1048560 ∧ (e.sample l).samples ≤ 8) ∧
  (∀ (e : Estimator) (l : Nat), 16 * l ≤ e.est16 →
    ∃ n, ∀ m, n ≤ m → ((fun x => Estimator.sample x l)^[m] e).est16 = 16 * l) ∧
  (∀ (e : Estimator) (l : Nat), e.est16 < 16 * l →
    (16 * l - e.est16 ≤ 7 → (e.sample l).est16 = e.est16) ∧
    ∃ n, ∀ m, n ≤ m →
      ((fun x => Estimator.sample x l)^[m] e).est16 < 16 * l ∧
        16 * l - ((fun x => Estimator.sample x l)^[m] e).est16 ≤ 7)

/-- R57: the allowance is CEIL while learning, and else floor(EST16 x MULT / 64) plus the length term, brought within
FLOOR and CEIL. -/
def Obligations.AllowanceComputed : Prop :=
  ∀ (d : DeadlineUnit) (len : Nat),
    (d.memEst.samples < 8 → d.allowance .mem len = d.memLimits.ceil) ∧
    (d.cfgEst.samples < 8 → d.allowance .cfg len = d.cfgLimits.ceil) ∧
    (8 ≤ d.memEst.samples → d.memLimits.floor ≤ d.memLimits.ceil →
      d.allowance .mem len =
        min d.memLimits.ceil
          (max d.memLimits.floor (d.memEst.est16 * d.memLimits.mult / 64 + len * d.memLimits.per16 / 16))) ∧
    (8 ≤ d.cfgEst.samples → d.cfgLimits.floor ≤ d.cfgLimits.ceil →
      d.allowance .cfg len =
        min d.cfgLimits.ceil (max d.cfgLimits.floor (d.cfgEst.est16 * d.cfgLimits.mult / 64))) ∧
    (d.memLimits.InRange → d.memLimits.floor ≤ d.allowance .mem len ∧ d.allowance .mem len ≤ d.memLimits.ceil ∧
      1 ≤ d.allowance .mem len ∧ d.allowance .mem len ≤ 65535) ∧
    (d.cfgLimits.InRange → d.cfgLimits.floor ≤ d.allowance .cfg len ∧ d.allowance .cfg len ≤ d.cfgLimits.ceil ∧
      1 ≤ d.allowance .cfg len ∧ d.allowance .cfg len ≤ 65535)

/-! ### Ingress (chapter 1, R88, R167, R168) -/

/-- A transaction becomes the head only with the trunk up and no head held, and is classified once: a request that
carries the part's own requester is unrouted whatever its kind; another configuration request goes by its target number,
7 to the Management Function, 0 to 3 to that slot, 4 to 6 unrouted (R3, R4). -/
def Obligations.HeadClassifiedOnce : Prop :=
  (∀ (s : State) (tx : Transaction), s.trunkUp = false ∨ s.head.isSome = true →
    exec (.ingressClassify tx) s = .next s) ∧
  (∀ (s : State) (tx : Transaction), s.trunkUp = true → s.head = none → requesterOf tx = some 0xFFFF →
    exec (.ingressClassify tx) s = .next { s with head := some { tx := tx, dest := .unrouted } }) ∧
  ∀ (s : State) (tx : Transaction) (r : Requester) (t : Tag) (g : Target) (o : Offset),
    (tx = .cfgRead r t g o ∨ ∃ be data, tx = .cfgWrite r t g o be data) →
    s.trunkUp = true → s.head = none → r ≠ 0xFFFF →
    exec (.ingressClassify tx) s = .next { s with head := some {
      tx := tx
      dest :=
        if g = 7 then .management
        else if g = 0 then .slot .s0
        else if g = 1 then .slot .s1
        else if g = 2 then .slot .s2
        else if g = 3 then .slot .s3
        else .unrouted } }

/-- R5: a downstream message goes to the slot of its target number, or with target 7 is taken by the Management Function
at once and without effect; one to target 4 to 6 and every upstream message is unrouted. -/
def Obligations.MessagesByDirectionAndTarget : Prop :=
  (∀ (s : State) (d : Direction) (g : Target), s.trunkUp = true → s.head = none →
    exec (.ingressClassify (.message d g)) s = .next { s with head := some {
      tx := .message d g
      dest :=
        if d = .upstream then .unrouted
        else if g = 7 then .management
        else if g = 0 then .slot .s0
        else if g = 1 then .slot .s1
        else if g = 2 then .slot .s2
        else if g = 3 then .slot .s3
        else .unrouted } }) ∧
  ∀ (s : State) (d : Direction) (g : Target), s.head = some { tx := .message d g, dest := .management } →
    exec .ingressTake s = .next { s with head := none }

/-- A host answer goes to the lowest-numbered slot whose Slot Bus entry equals the bus number of its requester, an
entry of 0 matching none; without a match, and with requester FFFFh, it is unrouted. Nothing else of the state is
looked at. That the bus number is bits 8 to 15 of the requester is the model's reading (log 36) (R6). -/
def Obligations.HostAnswersByBusNumber : Prop :=
  ∀ (s : State) (r : Requester) (t : Tag) (st : Status) (rem cnt : Nat) (data : List Byte),
    s.trunkUp = true → s.head = none → ∃ dest,
      exec (.ingressClassify (.answer r t st rem cnt data)) s =
        .next { s with head := some { tx := .answer r t st rem cnt data, dest := dest } } ∧
      (r = 0xFFFF → dest = .unrouted) ∧
      (r ≠ 0xFFFF →
        (∀ i, dest = .slot i ↔
          (s.slotBus.get i ≠ 0 ∧ (s.slotBus.get i).toNat = r.toNat / 256) ∧
            ∀ j, j.toNat < i.toNat → ¬(s.slotBus.get j ≠ 0 ∧ (s.slotBus.get j).toNat = r.toNat / 256)) ∧
        ((∀ i, ¬(s.slotBus.get i ≠ 0 ∧ (s.slotBus.get i).toNat = r.toNat / 256)) → dest = .unrouted))

/-- R7, with the rights of R8: a memory request goes by the lowest-numbered valid window that contains its first byte;
without one, and where that window does not contain the last byte, it is unrouted, a last byte beyond the top of the
address space included; else it goes to the window's slot, or is refused where the right it needs is not allowed. -/
def Obligations.MemoryRequestsByWindow : Prop :=
  ∀ (s : State) (tx : Transaction) (r : Requester) (a : Address) (len : Nat) (right : Window → Bool),
    ((∃ t, tx = .memRead r t a len) ∧ right = Window.readRight ∨
      (∃ data, tx = .memWrite r a len data) ∧ right = Window.writeRight) →
    s.trunkUp = true → s.head = none → r ≠ 0xFFFF → 1 ≤ len → ∃ dest,
      exec (.ingressClassify tx) s = .next { s with head := some { tx := tx, dest := dest } } ∧
      ((∀ k : Fin 16, ¬(s.windowActive[k].valid = true ∧ s.windowActive[k].base.toNat ≤ a.toNat ∧
          a.toNat ≤ s.windowActive[k].limit.toNat)) → dest = .unrouted) ∧
      (2 ^ 64 ≤ a.toNat + 4 * len - 1 → dest = .unrouted) ∧
      ∀ k : Fin 16, s.windowActive[k].valid = true → s.windowActive[k].base.toNat ≤ a.toNat →
        a.toNat ≤ s.windowActive[k].limit.toNat →
        (∀ j : Fin 16, j < k → ¬(s.windowActive[j].valid = true ∧ s.windowActive[j].base.toNat ≤ a.toNat ∧
          a.toNat ≤ s.windowActive[j].limit.toNat)) →
        dest =
          if a.toNat + 4 * len - 1 ≤ s.windowActive[k].limit.toNat then
            if right s.windowActive[k] = true then .slot s.windowActive[k].slot else .refused
          else .unrouted

/-- A head for a serving slot, whatever its kind, joins the tail of the slot's Send Queue while that holds fewer than 16
entries, and is held while it holds 16 (R12, R14). -/
def Obligations.ServingHeadJoinsSendQueue : Prop :=
  ∀ (s : State) (i : SlotId) (tx : Transaction), s.head = some { tx := tx, dest := .slot i } →
    (s.slot i).seq.state = .online ∨ (s.slot i).seq.state = .probation →
    ((s.slot i).traffic.sendQueue.length < 16 →
      exec .ingressTake s = .next (({ s with head := none } : State).withSlotAt i
        { s.slot i with traffic := { (s.slot i).traffic with
            sendQueue := (s.slot i).traffic.sendQueue ++ [tx] } })) ∧
    (16 ≤ (s.slot i).traffic.sendQueue.length → exec .ingressTake s = .next s)

/-- R88: a posted head for a non-serving slot is dropped and counted at once; a non-posted one is taken as its item joins
the SAQ, which needs room there and a Send Queue without non-posted entries; until then it is held. The item is in the
slot's style, ABORT for an EMPTY slot (R90). -/
def Obligations.ContainedHeadDisposed : Prop :=
  ∀ (s : State) (i : SlotId) (tx : Transaction), s.head = some { tx := tx, dest := .slot i } →
    (s.slot i).seq.state ≠ .online → (s.slot i).seq.state ≠ .probation →
    (nonPosted tx = false →
      exec .ingressTake s = .next (({ s with head := none } : State).withSlotAt i
        { s.slot i with counters := { (s.slot i).counters with
            droppedWrites := min 4294967295 ((s.slot i).counters.droppedWrites + 1) } })) ∧
    (∀ r t, keyOf tx = some (r, t) → s.saq.length < 64 →
      (∀ x ∈ (s.slot i).traffic.sendQueue, nonPosted x = false) →
      exec .ingressTake s = .next (({ s with
          head := none
          saq := s.saq ++ [
            if (s.slot i).seq.state = .empty ∨ (s.slot i).seq.plan.style = .abort then
              { requester := r, tag := t, status := .abort, remaining := owedBytes tx, style := .none, owner := none }
            else
              { requester := r, tag := t, status := .ok, remaining := owedBytes tx,
                style := if readsData tx then .ones else .none, owner := none }] } : State).withSlotAt i
        { s.slot i with
          counters := { (s.slot i).counters with
            synthetic := min 4294967295 ((s.slot i).counters.synthetic + 1) }
          current := if (s.slot i).current.outcome = .pending then
              { (s.slot i).current with synthetic := min 65535 ((s.slot i).current.synthetic + 1) }
            else (s.slot i).current })) ∧
    (nonPosted tx = true → 64 ≤ s.saq.length ∨ (∃ x ∈ (s.slot i).traffic.sendQueue, nonPosted x = true) →
      exec .ingressTake s = .next s)

/-- R13: unrouted traffic and traffic refused by rights is answered UNSUPPORTED through the SAQ where it needs an answer,
once there is room, and discarded where it needs none; each is counted once, part-wide, when it is taken. -/
def Obligations.UnroutedHeadDisposed : Prop :=
  ∀ (s : State) (tx : Transaction) (dest : Destination), s.head = some { tx := tx, dest := dest } →
    dest = .unrouted ∨ dest = .refused →
    (nonPosted tx = false →
      exec .ingressTake s = .next { s with
        head := none
        counters := if dest = .unrouted then
            { s.counters with unrouted := min 4294967295 (s.counters.unrouted + 1) }
          else { s.counters with rights := min 4294967295 (s.counters.rights + 1) } }) ∧
    (∀ r t, keyOf tx = some (r, t) → s.saq.length < 64 →
      exec .ingressTake s = .next { s with
        head := none
        saq := s.saq ++ [
          { requester := r, tag := t, status := .unsupported, remaining := owedBytes tx, style := .none, owner := none }]
        counters := if dest = .unrouted then
            { s.counters with unrouted := min 4294967295 (s.counters.unrouted + 1) }
          else { s.counters with rights := min 4294967295 (s.counters.rights + 1) } }) ∧
    (nonPosted tx = true → 64 ≤ s.saq.length → exec .ingressTake s = .next s)

/-- A CONFIG READ of target 7 is answered in the event in which it is taken, with the dword of the configuration space at
its offset, and is held while an answer waits (R4, R167, R168, R169, R179). -/
def Obligations.ConfigSpaceRead : Prop :=
  ∀ (s : State) (r : Requester) (t : Tag) (g : Target) (o : Offset),
    s.head = some { tx := .cfgRead r t g o, dest := .management } →
    (s.waitingAnswer.isSome = true → exec .ingressTake s = .next s) ∧
    (s.waitingAnswer = none → ∃ d : Dword,
      exec .ingressTake s = .next { s with
        head := none
        waitingAnswer := some { requester := r, tag := t, data := some d }
        presenting := some (s.presenting.getD .answer) } ∧
      (o.toNat = 0x000 → d = 0x00014B5A) ∧
      (o.toNat = 0x004 →
        d.toNat = 4 + 256 * (s.slot .s0).lines.powerControl.toNat + 512 * (s.slot .s1).lines.powerControl.toNat +
          1024 * (s.slot .s2).lines.powerControl.toNat + 2048 * (s.slot .s3).lines.powerControl.toNat) ∧
      (o.toNat = 0x100 → d = s.mailbox.command) ∧
      (∀ k : Fin 8, o.toNat = 0x104 + 4 * k.val → d = s.mailbox.params[k]) ∧
      (o.toNat = 0x184 →
        d.toNat =
          (match s.mailbox.state with
            | .idle => 0
            | .busy => 1
            | .done => 2) +
          256 * (match s.mailbox.result with
            | .ok => 0
            | .clamped => 1
            | .deferred => 2
            | .unknownCommand => 3
            | .badSlot => 4
            | .badIndex => 5
            | .wrongState => 6
            | .planInvalid => 7) +
          65536 * s.mailbox.goLost.toNat + 16777216 * s.mailbox.code.toNat) ∧
      (∀ k : Fin 16, o.toNat = 0x200 + 4 * k.val → d = s.mailbox.response[k]) ∧
      (o.toNat % 4 = 0 → o.toNat ≠ 0x000 → o.toNat ≠ 0x004 → o.toNat < 0x100 ∨ 0x120 < o.toNat → o.toNat ≠ 0x184 →
        o.toNat < 0x200 ∨ 0x23C < o.toNat → d = 0))

/-- A CONFIG WRITE of target 7 that carries no GO replaces the enabled bytes of the command dword or of a parameter
dword and is ignored at any other offset; it is answered in the same event, whatever the mailbox state. While an answer
waits it is held. That INGRESS_TAKE of such a head and CONFIG_SPACE_WRITE are one event (log 15), and that byte enable b
is that of bits 8b to 8b+7 of the dword (log 23), are the model's readings (R4, R167). -/
def Obligations.ConfigSpaceWrite : Prop :=
  (∀ (s : State) (r : Requester) (t : Tag) (g : Target) (o : Offset) (be : ByteEnables) (data : Dword),
    s.head = some { tx := .cfgWrite r t g o be data, dest := .management } → s.waitingAnswer.isSome = true →
    exec .configSpaceWrite s = .next s ∧ exec .ingressTake s = .next s) ∧
  ∀ (s : State) (r : Requester) (t : Tag) (g : Target) (o : Offset) (be : ByteEnables) (data : Dword),
    s.head = some { tx := .cfgWrite r t g o be data, dest := .management } → s.waitingAnswer = none →
    ¬(o = 0x180 ∧ be ≠ 0) → ∃ (command : Dword) (params : Vector Dword 8),
      exec .configSpaceWrite s = .next { s with
        head := none
        waitingAnswer := some { requester := r, tag := t, data := none }
        presenting := some (s.presenting.getD .answer)
        mailbox := { s.mailbox with command := command, params := params } } ∧
      exec .ingressTake s = exec .configSpaceWrite s ∧
      (o.toNat = 0x100 →
        params = s.mailbox.params ∧
        ∀ b, b < 32 → command.getLsbD b =
          if be.getLsbD (b / 8) then data.getLsbD b else s.mailbox.command.getLsbD b) ∧
      (∀ k : Fin 8, o.toNat = 0x104 + 4 * k.val →
        command = s.mailbox.command ∧ (∀ j : Fin 8, j ≠ k → params[j] = s.mailbox.params[j]) ∧
        ∀ b, b < 32 → params[k].getLsbD b =
          if be.getLsbD (b / 8) then data.getLsbD b else s.mailbox.params[k].getLsbD b) ∧
      (o.toNat ≠ 0x100 → (∀ k : Fin 8, o.toNat ≠ 0x104 + 4 * k.val) →
        command = s.mailbox.command ∧ params = s.mailbox.params)

/-- A GO that finds the mailbox BUSY is answered and sets GO_LOST; one with a command code that R176 does not list
completes with UNKNOWN_COMMAND, and a command whose slot field is examined and above 3 with BAD_SLOT. Such a refusal
changes nothing but the mailbox's answer and status. While an answer waits a GO is held, whatever its command, and the
rows of commands change nothing (the model's choice, log 1). That INGRESS_TAKE of a GO and the row of what it does are one
event is the model's reading (log 15) (R4, R170, R171). -/
def Obligations.GoWithoutCommand : Prop :=
  (∀ (s : State) (r : Requester) (t : Tag) (g : Target) (be : ByteEnables) (data : Dword),
    s.head = some { tx := .cfgWrite r t g 0x180 be data, dest := .management } → be ≠ 0 →
    s.waitingAnswer.isSome = true →
    ∀ c ∈ [Instr.ingressTake, .configSpaceWrite, .goLost, .unknownCommand, .setWindow, .commitWindows, .setSlotBus,
      .setPlan, .setLimits, .setMonitor, .setVisit, .setTimebase, .loadStep, .setScriptLength, .commitScript, .capture,
      .admitSlot, .isolate, .recover, .hold, .resume, .abort, .retire, .release, .querySlot, .readIncident,
      .readCounters, .setNotice, .ackNotices, .resetPart], exec c s = .next s) ∧
  (∀ (s : State) (r : Requester) (t : Tag) (g : Target) (be : ByteEnables) (data : Dword),
    s.head = some { tx := .cfgWrite r t g 0x180 be data, dest := .management } → be ≠ 0 → s.waitingAnswer = none →
    s.mailbox.state = .busy →
    exec .goLost s = .next { s with
      head := none
      waitingAnswer := some { requester := r, tag := t, data := none }
      presenting := some (s.presenting.getD .answer)
      mailbox := { s.mailbox with goLost := true } } ∧
    exec .ingressTake s = exec .goLost s) ∧
  (∀ (s : State) (r : Requester) (t : Tag) (code : Nat), s.GoReady r t code →
    code ∉ [0x01, 0x02, 0x03, 0x08, 0x09, 0x0A, 0x0B, 0x0C, 0x10, 0x11, 0x12, 0x13, 0x18, 0x19, 0x1A, 0x1B, 0x1C,
      0x1D, 0x1E, 0x1F, 0x20, 0x21, 0x22, 0x28, 0x29, 0x3F] →
    exec .unknownCommand s = .next ((s.afterGo r t).finished .unknownCommand []) ∧
    exec .ingressTake s = exec .unknownCommand s) ∧
  ∀ (s : State) (r : Requester) (t : Tag) (code : Nat) (c : Instr), s.GoReady r t code →
    (code, c) ∈ [(0x01, Instr.setWindow), (0x03, .setSlotBus), (0x08, .setPlan), (0x09, .setLimits), (0x0A, .setMonitor),
      (0x10, .loadStep), (0x11, .setScriptLength), (0x12, .commitScript), (0x13, .capture), (0x18, .admitSlot),
      (0x19, .isolate), (0x1A, .recover), (0x1B, .hold), (0x1C, .resume), (0x1D, .abort), (0x1E, .retire),
      (0x1F, .release), (0x20, .querySlot), (0x21, .readIncident), (0x22, .readCounters)] →
    4 ≤ s.mailbox.command.toNat / 256 % 256 →
    exec c s = .next ((s.afterGo r t).finished .badSlot [])

/-- Each mailbox command's row is the event in which INGRESS_TAKE takes the GO that carries its code (log 15). -/
def Obligations.TakeRunsTheCommand : Prop :=
  ∀ (s : State) (r : Requester) (t : Tag) (code : Nat) (c : Instr), s.GoReady r t code →
    (code, c) ∈ [(0x01, Instr.setWindow), (0x02, .commitWindows), (0x03, .setSlotBus), (0x08, .setPlan),
      (0x09, .setLimits), (0x0A, .setMonitor), (0x0B, .setVisit), (0x0C, .setTimebase), (0x10, .loadStep),
      (0x11, .setScriptLength), (0x12, .commitScript), (0x13, .capture), (0x18, .admitSlot), (0x19, .isolate),
      (0x1A, .recover), (0x1B, .hold), (0x1C, .resume), (0x1D, .abort), (0x1E, .retire), (0x1F, .release),
      (0x20, .querySlot), (0x21, .readIncident), (0x22, .readCounters), (0x28, .setNotice), (0x29, .ackNotices),
      (0x3F, .resetPart)] →
    exec .ingressTake s = exec c s

/-! ### Queues, the ORT and the trunk (chapters 1, 2 and 5) -/

/-- The Send Queue head of a serving slot with its link up departs: a posted one freely, a non-posted one with its
admission as the youngest LIVE entry, under the lowest free entry number, due after the allowance; a duplicate key, a
full ORT and a link that is down keep it waiting. While the slot is not serving nothing departs (R16, R23, R25, R27, R58,
R64, R81, R87). -/
def Obligations.SendQueueHeadDeparts : Prop :=
  (∀ (s : State) (i : SlotId), (s.slot i).serving = false → exec (.sendQueueDeparture i) s = .next s) ∧
  ∀ (s : State) (i : SlotId) (tx : Transaction) (rest : List Transaction),
    (s.slot i).traffic.sendQueue = tx :: rest → (s.slot i).serving = true →
    ((s.slot i).lines.linkUp = false → exec (.sendQueueDeparture i) s = .next s) ∧
    ((s.slot i).lines.linkUp = true → nonPosted tx = false →
      exec (.sendQueueDeparture i) s = .next (s.withSlotAt i
        { s.slot i with
          traffic := { (s.slot i).traffic with
            sendQueue := rest, linkSent := (s.slot i).traffic.linkSent ++ [toLink tx] }
          counters := if isRequest tx then
              { (s.slot i).counters with forwarded := min 4294967295 ((s.slot i).counters.forwarded + 1) }
            else (s.slot i).counters
          detect := { (s.slot i).detect with stallCount := (s.slot i).detect.monitor.stallLimit } })) ∧
    (∀ r t q, entryRequestOf tx = some (r, t, q) →
      ((∃ e ∈ (s.slot i).traffic.ort, e.requester = r ∧ e.tag = t) ∨ 32 ≤ (s.slot i).traffic.ort.length →
        exec (.sendQueueDeparture i) s = .next s) ∧
      ((s.slot i).lines.linkUp = true → (∀ e ∈ (s.slot i).traffic.ort, ¬(e.requester = r ∧ e.tag = t)) →
        (s.slot i).traffic.ort.length < 32 → ∃ n : Nat,
          n < 32 ∧ (∀ e ∈ (s.slot i).traffic.ort, e.number ≠ n) ∧
          (∀ m, m < n → ∃ e ∈ (s.slot i).traffic.ort, e.number = m) ∧
          exec (.sendQueueDeparture i) s = .next (s.withSlotAt i
            { s.slot i with
              traffic := { (s.slot i).traffic with
                sendQueue := rest
                linkSent := (s.slot i).traffic.linkSent ++ [toLink tx]
                ort := (s.slot i).traffic.ort ++ [
                  { number := n, requester := r, tag := t, request := q, issueTime := s.time.now,
                    deadline := s.time.now +
                      BitVec.ofNat 32 ((s.slot i).deadlines.allowance q.cls q.length),
                    remaining := owedBytes tx, keepKey := true, state := .live }] }
              counters := { (s.slot i).counters with
                forwarded := min 4294967295 ((s.slot i).counters.forwarded + 1) }
              detect := { (s.slot i).detect with stallCount := (s.slot i).detect.monitor.stallLimit } })))

/-- A duplicate-key head of a serving slot is answered UNSUPPORTED once the SAQ has room, counted as a duplicate and as
nothing else, the entry that holds the key unchanged; while the SAQ is full it stays (R26). -/
def Obligations.DuplicateKeyAnswered : Prop :=
  ∀ (s : State) (i : SlotId) (tx : Transaction) (rest : List Transaction) (r : Requester) (t : Tag),
    (s.slot i).traffic.sendQueue = tx :: rest → (s.slot i).serving = true → keyOf tx = some (r, t) →
    (∃ e ∈ (s.slot i).traffic.ort, e.requester = r ∧ e.tag = t) →
    (s.saq.length < 64 →
      exec (.duplicateKeyDisposal i) s = .next (({ s with
          saq := s.saq ++ [
            { requester := r, tag := t, status := .unsupported, remaining := owedBytes tx, style := .none, owner := none }] } : State).withSlotAt i
        { s.slot i with
          traffic := { (s.slot i).traffic with sendQueue := rest }
          counters := { (s.slot i).counters with
            duplicateKeys := min 4294967295 ((s.slot i).counters.duplicateKeys + 1) } })) ∧
    (64 ≤ s.saq.length → exec (.duplicateKeyDisposal i) s = .next s)

/-- The non-posted head of a contained Send Queue is answered in the slot's style once the SAQ has room, and the posted
entries behind it are dropped and counted up to the next non-posted one; a slot's oldest FENCED entry moves to ANSWERING
as its item, which names it, joins the SAQ, marked where a RESET PART in progress waits for that slot (log 41). Where
that was the last thing a RESET PART in progress waited for, the reset ends in the same event (the model's reading, log
14); else it goes on (R38, R44, R87, R90, R92, R95, R97, R172, R173). -/
def Obligations.ContainmentAnswers : Prop :=
  (∀ (s : State) (i : SlotId) (tx : Transaction) (dropped rest : List Transaction) (r : Requester) (t : Tag),
    (s.slot i).serving = false → s.saq.length < 64 →
    (s.slot i).traffic.sendQueue = tx :: (dropped ++ rest) → keyOf tx = some (r, t) →
    (∀ x ∈ dropped, nonPosted x = false) → (∀ x, rest.head? = some x → nonPosted x = true) →
    let u := ({ s with
        saq := s.saq ++ [
          { requester := r
            tag := t
            status := ((s.slot i).answerStyle.contents (readsData tx)).1
            remaining := owedBytes tx
            style := ((s.slot i).answerStyle.contents (readsData tx)).2
            owner := none
            ofReset :=
              match s.resetScope with
              | some scope => scope.get i
              | none => false }] } : State).withSlotAt i
      { s.slot i with
        traffic := { (s.slot i).traffic with sendQueue := rest }
        counters := { (s.slot i).counters with
          synthetic := min 4294967295 ((s.slot i).counters.synthetic + 1)
          droppedWrites := min 4294967295 ((s.slot i).counters.droppedWrites + dropped.length) }
        current := if (s.slot i).current.outcome = .pending then
            { (s.slot i).current with synthetic := min 65535 ((s.slot i).current.synthetic + 1) }
          else (s.slot i).current }
    (¬u.OwesNothing → exec (.containmentQueueAnswer i) s = .next u) ∧
    (u.OwesNothing → exec (.containmentQueueAnswer i) s = .next u.resetEnded)) ∧
  (∀ (s : State) (i : SlotId) (older younger : List Entry) (e : Entry),
    s.saq.length < 64 → (s.slot i).traffic.ort = older ++ e :: younger →
    (∀ x ∈ older, x.state ≠ .fenced) → e.state = .fenced →
    let u := ({ s with
        saq := s.saq ++ [
          { requester := e.requester
            tag := e.tag
            status := ((s.slot i).answerStyle.contents e.request.reads).1
            remaining := e.remaining
            style := ((s.slot i).answerStyle.contents e.request.reads).2
            owner := some { slot := i, entry := e.number }
            ofReset :=
              match s.resetScope with
              | some scope => scope.get i
              | none => false }] } : State).withSlotAt i
      { s.slot i with
        traffic := { (s.slot i).traffic with ort := older ++ { e with state := .answering } :: younger }
        counters := { (s.slot i).counters with
          synthetic := min 4294967295 ((s.slot i).counters.synthetic + 1) }
        current := if (s.slot i).current.outcome = .pending then
            { (s.slot i).current with synthetic := min 65535 ((s.slot i).current.synthetic + 1) }
          else (s.slot i).current }
    (¬u.OwesNothing → exec (.fencedEntryAnswer i) s = .next u) ∧
    (u.OwesNothing → exec (.fencedEntryAnswer i) s = .next u.resetEnded)) ∧
  (∀ (s : State) (i : SlotId), 64 ≤ s.saq.length →
    exec (.containmentQueueAnswer i) s = .next s ∧ exec (.fencedEntryAnswer i) s = .next s) ∧
  ∀ p : Slot,
    p.answerStyle.contents true =
      (if p.seq.state = .empty ∨ p.seq.plan.style = .abort then (.abort, .none) else (.ok, .ones)) ∧
    p.answerStyle.contents false =
      (if p.seq.state = .empty ∨ p.seq.plan.style = .abort then (.abort, .none) else (.ok, .none))

/-- A card's transaction joins its Receive Queue while that holds fewer than 16 entries; a card's memory requests and
upstream messages pass through an empty upstream stage while the slot is serving and are dropped and counted otherwise,
its configuration requests and downstream messages always (R17, R18, R89). -/
def Obligations.CardTrafficReceived : Prop :=
  (∀ (s : State) (i : SlotId) (tx : Transaction),
    ((s.slot i).traffic.recvQueue.length < 16 →
      exec (.slotLinkReceive i tx) s = .next (s.withSlotAt i
        { s.slot i with traffic := { (s.slot i).traffic with
            recvQueue := (s.slot i).traffic.recvQueue ++ [tx] } })) ∧
    (16 ≤ (s.slot i).traffic.recvQueue.length → exec (.slotLinkReceive i tx) s = .next s)) ∧
  ∀ (s : State) (i : SlotId) (tx : Transaction) (rest : List Transaction) (room : Bool),
    (s.slot i).traffic.recvQueue = tx :: rest → isAnswer tx = false →
    let forwardable : Bool :=
      match tx with
      | .memRead _ _ _ _ => true
      | .memWrite _ _ _ _ => true
      | .message .upstream _ => true
      | _ => false
    let dropped : Host.Outcome State Fault Refusal := .next (s.withSlotAt i
      { s.slot i with
        traffic := { (s.slot i).traffic with recvQueue := rest }
        counters := { (s.slot i).counters with
          droppedCardRequests := min 4294967295 ((s.slot i).counters.droppedCardRequests + 1) }
        current := if (s.slot i).current.outcome = .pending then
            { (s.slot i).current with dropped := min 65535 ((s.slot i).current.dropped + 1) }
          else (s.slot i).current })
    (forwardable = false → exec (.receiveQueueTake i room) s = dropped) ∧
    (forwardable = true → (s.slot i).traffic.stage.isSome = true → exec (.receiveQueueTake i room) s = .next s) ∧
    (forwardable = true → (s.slot i).traffic.stage = none → (s.slot i).serving = false →
      exec (.receiveQueueTake i room) s = dropped) ∧
    (forwardable = true → (s.slot i).traffic.stage = none → (s.slot i).serving = true →
      exec (.receiveQueueTake i room) s = .next (s.withSlotAt i
        { s.slot i with traffic := { (s.slot i).traffic with recvQueue := rest, stage := some tx } }))

/-- A card answer for a LIVE entry, the stage empty: a partial one reduces the bytes still owed; a final one is forwarded,
frees the entry, gives a latency sample, is captured where it accepts a CONFIG WRITE, and ends DRAINING where it leaves no
LIVE entry. No waiting head is admitted in the same event where the link has no room, the slot is not serving, or its Send
Queue has no non-posted head (room is the operand of log 11). While the stage is full the answer waits (R18, R27, R29, R30,
R31, R32, R55, R64, R84). -/
def Obligations.LiveAnswerMatched : Prop :=
  ∀ (s : State) (i : SlotId) (r : Requester) (t : Tag) (st : Status) (rem cnt : Nat) (data : List Byte)
    (rest : List Transaction) (older younger : List Entry) (e : Entry),
    (s.slot i).traffic.recvQueue = .answer r t st rem cnt data :: rest → r ≠ 0xFFFF →
    (s.slot i).traffic.ort = older ++ e :: younger → (∀ x ∈ older, ¬(x.requester = r ∧ x.tag = t)) →
    e.requester = r → e.tag = t → e.state = .live →
    let drained : State → State := fun u =>
      if (s.slot i).seq.state = .draining ∧ (u.slot i).liveCount = 0 then u.endDraining i else u
    let noneWaits : Prop :=
      (s.slot i).serving = false ∨ ∀ tx, (s.slot i).traffic.sendQueue.head? = some tx → nonPosted tx = false
    ((s.slot i).traffic.stage.isSome = true → ∀ room, exec (.receiveQueueTake i room) s = .next s) ∧
    ((s.slot i).traffic.stage = none →
      (st = .ok → e.request.cls = .mem → rem = e.remaining → cnt < rem → ∀ room,
        exec (.receiveQueueTake i room) s = .next (s.withSlotAt i
          { s.slot i with
            traffic := { (s.slot i).traffic with
              recvQueue := rest
              stage := some (.answer r t st rem cnt data)
              ort := older ++ { e with remaining := e.remaining - cnt } :: younger }
            detect := { (s.slot i).detect with stallCount := (s.slot i).detect.monitor.stallLimit } })) ∧
      (st ≠ .ok ∨ e.request.cls = .cfg ∨ (rem = e.remaining ∧ cnt = rem) → ∀ room, (room = true → noneWaits) →
        exec (.receiveQueueTake i room) s = .next (drained (s.withSlotAt i
          { s.slot i with
            traffic := { (s.slot i).traffic with
              recvQueue := rest
              stage := some (.answer r t st rem cnt data)
              ort := older ++ younger }
            detect := { (s.slot i).detect with stallCount := (s.slot i).detect.monitor.stallLimit }
            deadlines :=
              match e.request.cls with
              | .mem => { (s.slot i).deadlines with
                  memEst := (s.slot i).deadlines.memEst.sample (min 65535 (s.time.now - e.issueTime).toNat) }
              | .cfg => { (s.slot i).deadlines with
                  cfgEst := (s.slot i).deadlines.cfgEst.sample (min 65535 (s.time.now - e.issueTime).toNat) }
            script :=
              match e.request with
              | .cfgWrite off be d => if st = .ok then (s.slot i).script.captureWrite off be d else (s.slot i).script
              | .cfgRead _ => (s.slot i).script
              | .memRead _ _ => (s.slot i).script }))))

/-- An answer that is not forwarded, its stage empty and a DRAINING slot holding a LIVE entry: a stray one (no entry has its
key) and a malformed one are counted as stray, in the pending stray count too while the slot is serving; a stale one (the
entry is FENCED, ANSWERING or TOMBSTONE) is counted as stale and frees a TOMBSTONE when it is final by its own fields, which
admits no waiting head where the link has no room (the operand of log 11), the slot is not serving or no non-posted head
waits. Each is progress (R27, R28, R29, R33, R34, R35, R64). -/
def Obligations.UnmatchedAnswersDiscarded : Prop :=
  ∀ (s : State) (i : SlotId) (r : Requester) (t : Tag) (st : Status) (rem cnt : Nat) (data : List Byte)
    (rest : List Transaction),
    (s.slot i).traffic.recvQueue = .answer r t st rem cnt data :: rest → r ≠ 0xFFFF →
    (s.slot i).traffic.stage = none → ((s.slot i).seq.state = .draining → 0 < (s.slot i).liveCount) →
    let stray : Host.Outcome State Fault Refusal := .next (s.withSlotAt i
      { s.slot i with
        traffic := { (s.slot i).traffic with recvQueue := rest }
        counters := { (s.slot i).counters with stray := min 4294967295 ((s.slot i).counters.stray + 1) }
        detect := { (s.slot i).detect with
          stallCount := (s.slot i).detect.monitor.stallLimit
          pendingStrays := if (s.slot i).serving then min 255 ((s.slot i).detect.pendingStrays + 1)
            else (s.slot i).detect.pendingStrays } })
    let noneWaits : Prop :=
      (s.slot i).serving = false ∨ ∀ tx, (s.slot i).traffic.sendQueue.head? = some tx → nonPosted tx = false
    ((∀ x ∈ (s.slot i).traffic.ort, ¬(x.requester = r ∧ x.tag = t)) → ∀ room,
      exec (.receiveQueueTake i room) s = stray) ∧
    ∀ (older younger : List Entry) (e : Entry), (s.slot i).traffic.ort = older ++ e :: younger →
      (∀ x ∈ older, ¬(x.requester = r ∧ x.tag = t)) → e.requester = r → e.tag = t →
      (e.state = .live → st = .ok → e.request.cls = .mem → rem ≠ e.remaining ∨ rem < cnt → ∀ room,
        exec (.receiveQueueTake i room) s = stray) ∧
      (e.state ≠ .live → ∀ room, (room = true → e.state = .tombstone → noneWaits) →
        exec (.receiveQueueTake i room) s = .next (s.withSlotAt i
          { s.slot i with
            traffic := { (s.slot i).traffic with
              recvQueue := rest
              ort := if e.state = .tombstone ∧ (st ≠ .ok ∨ e.request.cls = .cfg ∨ cnt = rem) then older ++ younger
                else (s.slot i).traffic.ort }
            counters := { (s.slot i).counters with stale := min 4294967295 ((s.slot i).counters.stale + 1) }
            detect := { (s.slot i).detect with stallCount := (s.slot i).detect.monitor.stallLimit }
            current := if (s.slot i).current.outcome = .pending then
                { (s.slot i).current with stale := min 65535 ((s.slot i).current.stale + 1) }
              else (s.slot i).current }))

/-- A non-posted head that waits at the Send Queue of a serving slot is considered again in the event that frees an entry:
that event with room on the link equals the same event without room followed by the head's departure. That a head which
waited for its key counts too, that room is an operand, and that the answer's latency sample comes before the head's
allowance are the model's readings and choices (log 29, log 11, log 37) (R27, R32, R34, R39, R57). -/
def Obligations.FreedEntryAdmitsWaitingHead : Prop :=
  ∀ (s t : State) (i : SlotId) (tx : Transaction), (s.slot i).serving = true →
    (s.slot i).traffic.sendQueue.head? = some tx → nonPosted tx = true →
    (t.slot i).traffic.ort.length < (s.slot i).traffic.ort.length →
    (exec (.receiveQueueTake i false) s = .next t →
      exec (.receiveQueueTake i true) s = exec (.sendQueueDeparture i) t) ∧
    (exec (.egressGrant false) s = .next t →
      exec (.egressGrant true) s = exec (.sendQueueDeparture i) t)

/-- A granted slot source sends its stage's transaction unchanged; the Management Function sends its waiting answer, or
the notice: a MEMORY WRITE of one dword, the summary, from requester FFFFh to the notice address, counted. The granted
source becomes the last served; with the trunk down or nothing ready nothing changes (R19, R20, R163, R167, R169,
R179). -/
def Obligations.EgressSendsWhatIsGranted : Prop :=
  (∀ (s : State) (room : Bool), s.trunkUp = false ∨ (∀ src, s.ready src = false) →
    exec (.egressGrant room) s = .next s) ∧
  (∀ (s : State) (room : Bool) (i : SlotId) (tx : Transaction), s.trunkUp = true →
    s.nextSource = some (.slot i) → (s.slot i).traffic.stage = some tx →
    exec (.egressGrant room) s = .next (({ s with
        lastServed := .slot i, trunkSent := s.trunkSent ++ [tx] } : State).withSlotAt i
      { s.slot i with traffic := { (s.slot i).traffic with stage := none } })) ∧
  (∀ (s : State) (room : Bool) (a : MgtAnswer), s.trunkUp = true → s.nextSource = some .mgt →
    s.presenting = some .answer → s.waitingAnswer = some a →
    exec (.egressGrant room) s = .next { s with
      lastServed := .mgt
      waitingAnswer := none
      presenting := if s.notices.unsent then some .notice else none
      trunkSent := s.trunkSent ++ [
        match a.data with
        | some d => .answer a.requester a.tag .ok 4 4 (dwordBytes d)
        | none => .answer a.requester a.tag .ok 0 0 []] }) ∧
  ∀ (s : State) (room : Bool), s.trunkUp = true → s.nextSource = some .mgt → s.presenting = some .notice → ∃ d : Dword,
    exec (.egressGrant room) s = .next { s with
      lastServed := .mgt
      presenting := if s.waitingAnswer.isSome then some .answer else none
      notices := { s.notices with unsent := false }
      counters := { s.counters with notices := min 4294967295 (s.counters.notices + 1) }
      trunkSent := s.trunkSent ++ [.memWrite 0xFFFF s.notices.address 1 [d]] } ∧
    d.toNat = s.notices.summary.slots.s0.toNat + 2 * s.notices.summary.slots.s1.toNat +
      4 * s.notices.summary.slots.s2.toNat + 8 * s.notices.summary.slots.s3.toNat +
      16 * s.notices.summary.killChange.toNat

/-- When SYN is granted the head item leaves the SAQ and goes on the trunk as an answer with its requester, tag, status
and remaining byte count, with that many bytes FFh in ONES style and none else; an owning entry is told, and becomes
TOMBSTONE or is freed by its keep-key flag; nothing else is told. A freed entry admits no waiting head where the link
has no room (the operand of log 11, the model's choice), the slot is not serving, or no non-posted head waits. Where a
RESET PART in progress appended the head item and the SAQ has room, the claims that are left are met first, so that the
item is sent after the reset has ended or out of a full SAQ. That they are met in the event of the grant where no
command has met them (log 41), and in which order (log 42), is the model's reading and choice (R27, R39, R93, R94, R97,
R172). -/
def Obligations.SynSendsTheHeadItem : Prop :=
  (∀ (s : State) (it : SaqItem) (rest : List SaqItem), s.trunkUp = true → s.nextSource = some .syn →
    s.saq = it :: rest → ¬(s.resetScope.isSome = true ∧ it.ofReset = true ∧ s.saq.length < 64) →
    let sent : State := { s with
      lastServed := .syn
      saq := rest
      trunkSent := s.trunkSent ++ [
        if it.style = .ones then
          .answer it.requester it.tag it.status it.remaining it.remaining (List.replicate it.remaining 0xFF)
        else .answer it.requester it.tag it.status it.remaining 0 []] }
    (it.owner = none → ∀ room, exec (.egressGrant room) s = .next sent) ∧
    ∀ (i : SlotId) (n : Nat) (older younger : List Entry) (e : Entry), it.owner = some { slot := i, entry := n } →
      (s.slot i).traffic.ort = older ++ e :: younger → (∀ x ∈ older, x.number ≠ n) → e.number = n →
      ∀ room, (room = true → e.keepKey = false → (s.slot i).serving = false ∨
        ∀ tx, (s.slot i).traffic.sendQueue.head? = some tx → nonPosted tx = false) →
      exec (.egressGrant room) s = .next (sent.withSlotAt i
        { s.slot i with traffic := { (s.slot i).traffic with
            ort := if e.keepKey then older ++ { e with state := .tombstone } :: younger else older ++ younger } })) ∧
  ∀ (s : State) (it : SaqItem) (rest : List SaqItem) (room : Bool), s.Sound → s.trunkUp = true →
    s.nextSource = some .syn → s.saq = it :: rest →
    s.resetScope.isSome = true ∧ it.ofReset = true ∧ s.saq.length < 64 →
    ∃ (claims : List Instr) (u : State) (more : List SaqItem), (∀ c ∈ claims, IsClaim c) ∧ Runs claims s u ∧
      (u.resetScope = none ∨ u.saq.length = 64) ∧ u.trunkUp = true ∧ u.nextSource = some .syn ∧
      u.saq = it :: (rest ++ more) ∧ exec (.egressGrant room) s = exec (.egressGrant room) u

/-! ### Detection and trips (chapter 4) -/

/-- A stall, a link loss, a power loss, the expiry of a LIVE entry and ISOLATE each trip a serving slot with their own
cause. The record's view is taken while the expiring entry is still LIVE: the LIVE count, a snapshot of the oldest LIVE
entry, and the two estimates. Where no STALL trip is due, or the slot is not serving, there is nothing to trip, and ISOLATE
is refused. The model's readings: the count's reaching 0 makes the trip due until it is taken (log 13), the new incident
counts the stage's discarded request (log 17), the answer to ISOLATE's GO is presented before the notice it queues
(log 34), and a DRAIN of 0 ends the drain of a HELD slot too (log 38) (R36, R45, R60, R65, R66, R67, R76, R77, R78, R156). -/
def Obligations.ServingSlotTrips : Prop :=
  (∀ (s : State) (i : SlotId), (s.slot i).serving = false ∨ (s.slot i).detect.stallDue = false →
    exec (.stallTrip i) s = .next s) ∧
  (∀ (s : State) (i : SlotId) (r : Requester) (t : Tag), s.GoReady r t 0x19 → s.NamesSlot i →
    (s.slot i).serving = false → exec .isolate s = .next ((s.afterGo r t).finished .wrongState [])) ∧
  ∀ (s : State) (i : SlotId), (s.slot i).serving = true →
    let p := s.slot i
    let view := p.tripView s.time.now
    (p.detect.stallDue = true → exec (.stallTrip i) s = .next (s.tripped i p .stall 0 view)) ∧
    (p.lines.linkUp = true →
      exec (.linkLoss i) s = .next (s.tripped i { p with lines := { p.lines with linkUp := false } } .linkDown 0 view)) ∧
    (p.lines.pwrgd = true →
      exec (.powerLoss i) s = .next (s.tripped i { p with lines := { p.lines with pwrgd := false } } .powerLoss 0 view)) ∧
    (∀ (older younger : List Entry) (e : Entry), p.traffic.ort = older ++ e :: younger →
      (∀ x ∈ older, x.number ≠ e.number) → e.state = .live → (s.time.now - e.deadline).toNat < 2147483648 →
      exec (.expiry i e.number) s = .next (s.tripped i
        { p with traffic := { p.traffic with ort := older ++ { e with state := .fenced } :: younger } } .deadline 0 view)) ∧
    (∀ (r : Requester) (t : Tag), s.GoReady r t 0x19 → s.NamesSlot i →
      exec .isolate s = .next (((s.afterGo r t).tripped i p .commanded 0 view).finished .ok
        [BitVec.ofNat 32 (if p.seq.state = .online then s.sequence + 1 else p.current.sequence).toNat])) ∧
    view.liveCount = p.traffic.ort.countP (fun e => e.state == .live) ∧
    ((∀ e ∈ p.traffic.ort, e.state ≠ .live) → view.snapshot = none) ∧
    (∀ (older younger : List Entry) (e : Entry), p.traffic.ort = older ++ e :: younger →
      (∀ x ∈ older, x.state ≠ .live) → e.state = .live →
      view.snapshot = some
        { target :=
            match e.request with
            | .memRead a _ => .memRead a
            | .cfgRead off => .cfgRead off
            | .cfgWrite off _ _ => .cfgWrite off
          requester := e.requester
          tag := e.tag
          age := min 65535 (s.time.now - e.issueTime).toNat }) ∧
    view.memEst = p.deadlines.memEst.est16 / 16 ∧ view.cfgEst = p.deadlines.cfgEst.est16 / 16

/-- A link loss and a power loss of a slot that is not serving: further causes in DRAINING and FENCED, the failure of the
attempt in the phases that need link or power, and otherwise the line's level alone; a line already down gives no edge
(R66, R67, R77, R105, R108, R110, R111, R133). -/
def Obligations.LossesOutsideService : Prop :=
  ∀ (s : State) (i : SlotId),
    let p := s.slot i
    let noLink : Slot := { p with lines := { p.lines with linkUp := false } }
    let noPower : Slot := { p with lines := { p.lines with pwrgd := false } }
    let noted : Slot → CauseSet → Slot := fun q c =>
      { q with current :=
          if q.current.outcome = .pending then { q.current with further := q.current.further ||| c } else q.current }
    (p.lines.linkUp = false → exec (.linkLoss i) s = .next s) ∧
    (p.lines.pwrgd = false → exec (.powerLoss i) s = .next s) ∧
    (p.lines.linkUp = true →
      (p.seq.state = .draining ∨ p.seq.state = .fenced →
        exec (.linkLoss i) s = .next (s.withSlotAt i (noted noLink 0x04))) ∧
      (p.seq.state = .recovering →
        p.seq.phase = some .functionReset ∨ p.seq.phase = some .settle ∨ p.seq.phase = some .restoring →
        exec (.linkLoss i) s = .next ((s.withSlotAt i noLink).failAttempt i)) ∧
      (p.seq.state = .recovering →
        p.seq.phase ≠ some .functionReset → p.seq.phase ≠ some .settle → p.seq.phase ≠ some .restoring →
        exec (.linkLoss i) s = .next (s.withSlotAt i noLink)) ∧
      (p.seq.state = .offline ∨ p.seq.state = .retired ∨ p.seq.state = .empty →
        exec (.linkLoss i) s = .next (s.withSlotAt i noLink))) ∧
    (p.lines.pwrgd = true →
      (p.seq.state = .draining ∨ p.seq.state = .fenced →
        exec (.powerLoss i) s = .next (s.withSlotAt i (noted noPower 0x20))) ∧
      (p.seq.state = .recovering →
        p.seq.phase = some .settle ∨ p.seq.phase = some .restoring ∨
          (p.seq.phase = some .powerOn ∧ p.seq.pwrgdSeen = true) →
        exec (.powerLoss i) s = .next ((s.withSlotAt i noPower).failAttempt i)) ∧
      (p.seq.state = .recovering → p.seq.phase ≠ some .settle → p.seq.phase ≠ some .restoring →
        ¬(p.seq.phase = some .powerOn ∧ p.seq.pwrgdSeen = true) →
        exec (.powerLoss i) s = .next (s.withSlotAt i noPower)) ∧
      (p.seq.state = .offline ∨ p.seq.state = .retired ∨ p.seq.state = .empty →
        exec (.powerLoss i) s = .next (s.withSlotAt i noPower)))

/-- A health visit, when its timer has run out, visits the next slot: a serving slot's accumulators lose DECAY, gain the
pending counts and trip it where they exceed their thresholds, another slot's are set to 0; the next slot advances and the
timer takes VISIT. A corrected link error counts while the slot is serving. That a trip's
incident counts the stage's discarded request (log 17) and that a DRAIN of 0 ends the drain of a HELD slot too (log 38) are
the model's readings (R68, R69, R70, R71). -/
def Obligations.HealthVisited : Prop :=
  (∀ s : State, s.health.visitTimer ≠ 0 → exec .healthVisit s = .next s) ∧
  (∀ s : State, s.health.visitTimer = 0 →
    let i := s.health.nextSlot
    let p := s.slot i
    let u : State := { s with health := { s.health with
      visitTimer := s.health.visit
      nextSlot :=
        match i with
        | .s0 => .s1
        | .s1 => .s2
        | .s2 => .s3
        | .s3 => .s0 } }
    let err := min 255 (p.detect.errAcc - p.detect.monitor.decay + p.detect.pendingErrors)
    let stray := min 255 (p.detect.strayAcc - p.detect.monitor.decay + p.detect.pendingStrays)
    let q : Slot := { p with detect := { p.detect with
      errAcc := err, strayAcc := stray, pendingErrors := 0, pendingStrays := 0 } }
    (p.serving = false →
      exec .healthVisit s = .next (u.withSlotAt i { p with detect := { p.detect with
        errAcc := 0, strayAcc := 0, pendingErrors := 0, pendingStrays := 0 } })) ∧
    (p.serving = true → err ≤ p.detect.monitor.errThresh → stray ≤ p.detect.monitor.strayThresh →
      exec .healthVisit s = .next (u.withSlotAt i q)) ∧
    (p.serving = true → p.detect.monitor.errThresh < err →
      exec .healthVisit s = .next (u.tripped i q .linkErrors
        (if p.detect.monitor.strayThresh < stray then 0x10 else 0) (p.tripView s.time.now))) ∧
    (p.serving = true → err ≤ p.detect.monitor.errThresh → p.detect.monitor.strayThresh < stray →
      exec .healthVisit s = .next (u.tripped i q .strayAnswers 0 (p.tripView s.time.now)))) ∧
  ∀ (s : State) (i : SlotId),
    exec (.correctedLinkError i) s = .next (if (s.slot i).serving then
      s.withSlotAt i { s.slot i with detect := { (s.slot i).detect with
        pendingErrors := min 255 ((s.slot i).detect.pendingErrors + 1) } }
      else s)

/-! ### DRAINING and recovery (chapters 5 and 6) -/

/-- DRAINING ends when its timer runs out or its last LIVE entry expires: every LIVE entry is fenced; an admission has
failed; a fault goes to FENCED, and goes on from there with a new plan sample where its first cause is automatic and KILL
is deasserted. An entry whose deadline is not reached does not expire. That the
ladder does not assert SLOT-RESET there as it does after a failure, though a trip in PROBATION is one, is the model's reading
(log 39) (R36, R61, R84, R85, R102). -/
def Obligations.DrainEnds : Prop :=
  ∀ (s : State) (i : SlotId),
    let p := s.slot i
    let fenced : Slot := { p with
      traffic := { p.traffic with ort := p.fencedOrt }
      seq := { p.seq with state := .fenced, level := none, drainTimer := none } }
    let automatic : Prop := ∃ c, p.current.firstCause = .trip c ∧ c ≠ .external ∧
      p.seq.plan.autoCauses.getLsbD c.number = true ∧ s.kill = false
    (p.current.kind = .admission →
      s.endDraining i =
        (s.withSlotAt i { p with traffic := { p.traffic with ort := p.fencedOrt } }).admissionFailed i) ∧
    (p.current.kind = .fault → automatic → s.endDraining i = (s.withSlotAt i fenced.sampled).climb i false) ∧
    (p.current.kind = .fault → ¬automatic →
      s.endDraining i = s.withSlotAt i { fenced with seq := { fenced.seq with held := false } }) ∧
    (p.seq.state = .draining → p.seq.drainTimer = some 0 → p.seq.held = false →
      exec (.drainTimerRunsOut i) s = .next (s.endDraining i)) ∧
    (p.seq.state ≠ .draining ∨ p.seq.drainTimer ≠ some 0 → exec (.drainTimerRunsOut i) s = .next s) ∧
    (∀ (older younger : List Entry) (e : Entry), p.seq.state = .draining → p.traffic.ort = older ++ e :: younger →
      (∀ x ∈ older, x.number ≠ e.number) → e.state = .live → (s.time.now - e.deadline).toNat < 2147483648 →
      let u := s.withSlotAt i
        { p with traffic := { p.traffic with ort := older ++ { e with state := .fenced } :: younger } }
      exec (.expiry i e.number) s = .next (if (u.slot i).liveCount = 0 then u.endDraining i else u)) ∧
    ∀ n, (∀ e ∈ p.traffic.ort, e.number = n → e.state = .live → 2147483648 ≤ (s.time.now - e.deadline).toNat) →
      exec (.expiry i n) s = .next s

/-- The ladder begins an attempt at the lowest level that is not below START LEVEL, is available and has an attempt left:
FUNCTION_RESET with its reset write, RESET_ASSERT, or the request for the rail, granted at once when it is free. FUNCTION
is spent in the same event while the link is down (log 16), and a slot without such a level is retired. After a failed
attempt SLOT-RESET is asserted for SLOT and POWER (R100, R103, R105, R106, R109, R112, R113, R130). -/
def Obligations.LadderClimbs : Prop :=
  ∀ (s : State) (i : SlotId) (afterFailure : Bool),
    let p := s.slot i
    ((∀ l, ¬p.Callable l) → s.climb i afterFailure = s.retiredAt i p.seq.sample.retireAction) ∧
    (∀ w, p.Callable .function → p.seq.sample.functionReset = some w → p.lines.linkUp = true →
      let q := (p.attempting .function).inPhase .functionReset (some (1024 * p.seq.sample.stepLimit))
      s.climb i afterFailure = s.withSlotAt i (({ q with exec :=
        { inFlight := none, withheld := false, nextTag := p.exec.nextTag, step := none, stepTimer := none,
          reissueTimer := none, intervalTimer := none, limitTimer := none, pauseTimer := none } } : Slot).issuing
        (.write w.offset 0xF w.data))) ∧
    (p.Callable .function → p.lines.linkUp = false →
      let counts : PerLevel := { p.seq.attempts with function := p.seq.sample.attempts.function }
      s.climb i afterFailure = (s.withSlotAt i
        { p with
          seq := { p.seq with attempts := counts }
          current := if p.current.outcome = .pending then
              { p.current with
                attempts := counts
                highest := if p.current.highest = none then some .function else p.current.highest }
            else p.current }).climb i true) ∧
    (¬p.Callable .function → p.Callable .slot →
      s.climb i afterFailure = s.withSlotAt i (p.attempting .slot).inResetAssert) ∧
    (¬p.Callable .function → ¬p.Callable .slot → p.Callable .power →
      let q : Slot := { p.attempting .power with lines := { p.lines with slotReset := p.lines.slotReset || afterFailure } }
      ((s.rail i.rail).holder = none →
        s.climb i afterFailure =
          (s.setRail i.rail { s.rail i.rail with holder := some i }).withSlotAt i q.inPowerOff) ∧
      ((s.rail i.rail).holder.isSome = true →
        s.climb i afterFailure =
          (s.setRail i.rail { s.rail i.rail with waiting := some i }).withSlotAt i (q.inPhase .railWait none)))

/-- The timers that bound FUNCTION_RESET, LINK_WAIT, the wait for PWRGD, a WRITE or VERIFY step and a POLL step each fail
the attempt: an admission with it, a fault with one more failed attempt at its level, POWER-ENABLE off from POWER_ON, the
rail given up, and the ladder; that a waiting partner is granted the rail before the ladder asks again is the model's
reading (log 32). No timer of a HELD slot runs out (R105, R107, R110, R112, R116, R123, R149, R150, R152). -/
def Obligations.AttemptFails : Prop :=
  ∀ (s : State) (i : SlotId),
    let p := s.slot i
    let q := p.stopped.attemptFailed
    (p.current.kind = .admission → s.failAttempt i = s.admissionFailed i) ∧
    (p.current.kind = .fault →
      s.failAttempt i = ((s.withSlotAt i (if p.seq.phase = some .powerOn then
        { q with lines := { q.lines with powerEnable := false } } else q)).releaseRail i).climb i true) ∧
    (p.seq.state = .recovering → p.seq.held = false →
      (p.seq.phase = some .functionReset → p.seq.phaseTimer = some 0 →
        exec (.functionResetTimerRunsOut i) s = .next (s.failAttempt i)) ∧
      (p.seq.phase = some .linkWait → p.seq.phaseTimer = some 0 →
        exec (.linkWaitTimerRunsOut i) s = .next (s.failAttempt i)) ∧
      (p.seq.phase = some .powerOn → p.seq.pwrgdSeen = false → p.seq.phaseTimer = some 0 →
        exec (.pwrgdLimitRunsOut i) s = .next (s.failAttempt i)) ∧
      (p.seq.phase = some .restoring → p.exec.stepTimer = some 0 →
        exec (.stepTimerRunsOut i) s = .next (s.failAttempt i)) ∧
      (p.seq.phase = some .restoring → p.exec.limitTimer = some 0 →
        exec (.pollLimitRunsOut i) s = .next (s.failAttempt i))) ∧
    (p.seq.held = true →
      ∀ c ∈ [Instr.drainTimerRunsOut i, .functionResetTimerRunsOut i, .functionResetReissue i,
        .resetAssertTimerRunsOut i, .linkWaitTimerRunsOut i, .settleTimerRunsOut i, .powerOffTimerRunsOut i,
        .pwrgdLimitRunsOut i, .onSettleRunsOut i, .stepTimerRunsOut i, .stepReissue i, .pollIntervalRunsOut i,
        .pollLimitRunsOut i, .pauseRunsOut i, .probationTimerRunsOut i], exec c s = .next s)

/-- The phases of SLOT and POWER follow one another: RESET_ASSERT releases SLOT-RESET and waits for the link, which may be
up already; POWER_OFF gives power back and waits for PWRGD, which may be there already; ON_SETTLE gives the rail to a
waiting partner, which enters POWER_OFF in the same event. An edge that no phase waits for changes its line alone (R106,
R107, R108, R109, R110, R131, R133). -/
def Obligations.PhasesAdvance : Prop :=
  ∀ (s : State) (i : SlotId),
    let p := s.slot i
    let out : Slot := { p with lines := { p.lines with slotReset := false } }
    let released : State → State := fun u =>
      if p.lines.linkUp then u.settling i out
      else u.withSlotAt i (out.inPhase .linkWait (some (1024 * p.seq.sample.linkLimit)))
    let linked : Slot := { p with lines := { p.lines with linkUp := true } }
    let supplied : Slot := { p with lines := { p.lines with pwrgd := true } }
    (p.seq.state = .recovering → p.seq.phaseTimer = some 0 → p.seq.held = false →
      (p.seq.phase = some .resetAssert → exec (.resetAssertTimerRunsOut i) s = .next (released s)) ∧
      (p.seq.phase = some .powerOff →
        let q := ({ p with lines := { p.lines with powerEnable := p.lines.powerControl } } : Slot).inPhase .powerOn
          (some (1024 * if p.lines.pwrgd then p.seq.sample.onSettle else p.seq.sample.pwrgdLimit))
        exec (.powerOffTimerRunsOut i) s =
          .next (s.withSlotAt i { q with seq := { q.seq with pwrgdSeen := p.lines.pwrgd } })) ∧
      (p.seq.phase = some .powerOn → p.seq.pwrgdSeen = true → (s.rail i.rail).holder = some i →
        ((s.rail i.rail).waiting = none →
          exec (.onSettleRunsOut i) s =
            .next (released (s.setRail i.rail { holder := none, waiting := none }))) ∧
        ∀ j, j ≠ i → (s.rail i.rail).waiting = some j →
          exec (.onSettleRunsOut i) s = .next (released
            ((s.setRail i.rail { holder := some j, waiting := none }).withSlotAt j (s.slot j).inPowerOff)))) ∧
    (p.lines.linkUp = true → exec (.linkUp i) s = .next s) ∧
    (p.lines.linkUp = false → p.seq.state = .recovering ∧ p.seq.phase = some .linkWait →
      exec (.linkUp i) s = .next (s.settling i linked)) ∧
    (p.lines.linkUp = false → ¬(p.seq.state = .recovering ∧ p.seq.phase = some .linkWait) →
      exec (.linkUp i) s = .next (s.withSlotAt i linked)) ∧
    (p.lines.pwrgd = true → exec (.powerRise i) s = .next s) ∧
    (p.lines.pwrgd = false →
      exec (.powerRise i) s = .next (s.withSlotAt i
        (if p.seq.state = .recovering ∧ p.seq.phase = some .powerOn ∧ p.seq.pwrgdSeen = false then
          { supplied with seq := { p.seq with phaseTimer := some (1024 * p.seq.sample.onSettle), pwrgdSeen := true } }
        else supplied)))

/-- SETTLE leads to the restore script, from position 0, or to PROBATION where none is to run or it is empty; each step
that passes, a PAUSE by its timer, leads to the next or to PROBATION; PROBATION leads to ONLINE with the incident closed
RECOVERED (R103, R108, R111, R114, R115, R148, R151). -/
def Obligations.ServiceResumes : Prop :=
  ∀ (s : State) (i : SlotId),
    let p := s.slot i
    let restores :=
      match p.current.kind with
      | .fault => p.seq.sample.restoreOnRecovery
      | .admission => p.seq.sample.restoreOnAdmit
    (restores = false → s.settleDone i = s.probating i p) ∧
    (restores = true → p.script.active = [] → s.settleDone i = s.probating i (p.inPhase .restoring none)) ∧
    (∀ st rest, restores = true → p.script.active = st :: rest →
      s.settleDone i = s.withSlotAt i ((p.inPhase .restoring none).stepStarted 0 st)) ∧
    (∀ k st, p.seq.phase = some .restoring → p.exec.step = some k → p.script.active[k + 1]? = some st →
      s.passStep i = s.withSlotAt i (p.stepStarted (k + 1) st)) ∧
    (∀ k, p.exec.step = some k → p.script.active[k + 1]? = none → s.passStep i = s.probating i p) ∧
    (p.seq.held = false →
      (p.seq.state = .recovering → p.seq.phase = some .settle → p.seq.phaseTimer = some 0 →
        exec (.settleTimerRunsOut i) s = .next (s.settleDone i)) ∧
      (p.seq.state = .recovering → p.seq.phase = some .restoring → p.exec.pauseTimer = some 0 →
        exec (.pauseRunsOut i) s = .next (s.passStep i)) ∧
      (p.seq.state = .probation → p.seq.probationTimer = some 0 →
        exec (.probationTimerRunsOut i) s = .next (s.wentOnline i)))

/-! ### The Restore Executor (chapter 8) -/

/-- An access in flight goes to a slot link that is up once, as a configuration request of requester FFFFh, the reset write
with tombstone clear; a reissue of the reset write or of a step's access takes the next tag. That an access which is in
flight when HOLD comes goes to the link all the same, in a HELD slot, is the model's reading (log 25) (R105, R116, R140,
R146, R149, R150). -/
def Obligations.ExecutorAccesses : Prop :=
  ∀ (s : State) (i : SlotId),
    let p := s.slot i
    (∀ a, p.exec.inFlight = some a → a.onLink = false → p.lines.linkUp = true →
      exec (.executorAccessSend i) s = .next (s.withSlotAt i
        { p with
          exec := { p.exec with inFlight := some { a with onLink := true } }
          traffic := { p.traffic with
            ort := if p.seq.phase = some .functionReset then p.clearedOrt else p.traffic.ort
            linkSent := p.traffic.linkSent ++ [
              match a.request with
              | .write off be data => .cfgWrite 0xFFFF a.tag off be data
              | .read off => .cfgRead 0xFFFF a.tag off] } })) ∧
    (p.exec.inFlight = none ∨ p.lines.linkUp = false ∨ (∃ a, p.exec.inFlight = some a ∧ a.onLink = true) →
      exec (.executorAccessSend i) s = .next s) ∧
    (p.seq.state = .recovering → p.seq.held = false →
      (∀ w, p.seq.phase = some .functionReset → p.seq.reissueTimer = some 0 → p.seq.sample.functionReset = some w →
        exec (.functionResetReissue i) s = .next (s.withSlotAt i
          (({ p with seq := { p.seq with reissueTimer := none } } : Slot).issuing (.write w.offset 0xF w.data)))) ∧
      (∀ k st, p.seq.phase = some .restoring → p.exec.step = some k → p.script.active[k]? = some st →
        (p.exec.reissueTimer = some 0 →
          (∀ off be v, st = .write off be v →
            exec (.stepReissue i) s = .next (s.withSlotAt i
              (({ p with exec := { p.exec with reissueTimer := none } } : Slot).issuing (.write off be v)))) ∧
          ∀ off m x, st = .verify off m x →
            exec (.stepReissue i) s = .next (s.withSlotAt i
              (({ p with exec := { p.exec with reissueTimer := none } } : Slot).issuing (.read off)))) ∧
        (p.exec.intervalTimer = some 0 → ∀ off m x l, st = .poll off m x l →
          exec (.pollIntervalRunsOut i) s = .next (s.withSlotAt i
            (({ p with exec := { p.exec with intervalTimer := none } } : Slot).issuing (.read off))))))

/-- A card answer of requester FFFFh is progress and is discarded unless its tag is that of the access in flight. An OK of
the reset write enters SETTLE; an OK of a WRITE, or of a VERIFY or POLL whose dword agrees under the mask, passes the step;
RETRY and a POLL that does not agree wait one unit; everything else fails the attempt. An answer of fewer than four bytes
gives the executor a free dword (log 8), and one that comes in another phase only clears the access (log 33). That data
byte b of an answer is bits 8b to 8b+7 of the dword (log 23), and that of more than four bytes the first four are the dword
(log 40), are the model's readings (R18, R64, R105, R140, R146, R147, R149,
R150). -/
def Obligations.ExecutorAnswers : Prop :=
  ∀ (s : State) (i : SlotId) (t : Tag) (st : Status) (rem cnt : Nat) (data : List Byte) (rest : List Transaction)
    (room : Bool), (s.slot i).traffic.recvQueue = .answer 0xFFFF t st rem cnt data :: rest →
    let p : Slot :=
      { s.slot i with
        traffic := { (s.slot i).traffic with recvQueue := rest }
        detect := { (s.slot i).detect with stallCount := (s.slot i).detect.monitor.stallLimit } }
    let q : Slot := { p with exec := { p.exec with inFlight := none } }
    let u := s.withSlotAt i q
    let take := exec (.receiveQueueTake i room) s
    ((∀ a, p.exec.inFlight = some a → a.tag ≠ t) → take = .next (s.withSlotAt i p)) ∧
    ∀ a, p.exec.inFlight = some a → a.tag = t →
      (p.seq.phase ≠ some .functionReset → p.seq.phase ≠ some .restoring → take = .next u) ∧
      (p.seq.phase = some .functionReset →
        (st = .ok → take = .next (s.settling i q)) ∧
        (st = .retry → take = .next (s.withSlotAt i { q with seq := { q.seq with reissueTimer := some 1024 } })) ∧
        (st = .abort ∨ st = .unsupported → take = .next (u.failAttempt i))) ∧
      ∀ k stp, p.seq.phase = some .restoring → p.exec.step = some k → p.script.active[k]? = some stp →
        (st = .abort ∨ st = .unsupported → take = .next (u.failAttempt i)) ∧
        (∀ off be v, stp = .write off be v →
          (st = .ok → take = .next (u.passStep i)) ∧
          (st = .retry → take = .next (s.withSlotAt i { q with exec := { q.exec with reissueTimer := some 1024 } }))) ∧
        (∀ off m x, stp = .verify off m x → st = .retry →
          take = .next (s.withSlotAt i { q with exec := { q.exec with reissueTimer := some 1024 } })) ∧
        (∀ off m x l, stp = .poll off m x l → st = .retry →
          take = .next (s.withSlotAt i { q with exec := { q.exec with intervalTimer := some 1024 } })) ∧
        (st = .ok → ∃ (d : Dword) (v : State),
          (4 ≤ data.length → v = u ∧ ∀ b, b < 4 → data[b]? = some (d.extractLsb' (8 * b) 8)) ∧
          (data.length < 4 → v = { u with freeIndex := s.freeIndex + 1 }) ∧
          (∀ off m x, stp = .verify off m x →
            take = .next (if d &&& m = x &&& m then v.passStep i else v.failAttempt i)) ∧
          ∀ off m x l, stp = .poll off m x l →
            take = .next (if d &&& m = x &&& m then v.passStep i
              else v.withSlotAt i { q with exec := { q.exec with intervalTimer := some 1024 } }))

/-! ### KILL, removal, insertion (chapters 4 and 7) -/

/-- The assertion of KILL takes every slot out of service: serving slots trip with cause EXTERNAL, as any trip does (the
gates close, the drain timer is loaded, a FAULT in PROBATION counts a failed attempt), and drain; the incidents opened
from ONLINE are numbered in the order in which the slots take the edge; sequences are aborted to FENCED with their
incidents PENDING, FENCED incidents gain the cause, every rail ends free, and OFFLINE, RETIRED and EMPTY slots are
untouched. The deassertion changes no slot. Both set the KILL-change bit; a level that does not change is no edge. The
order in which the slots take it is an operand, the model's choice (log 10); that the new incident counts the stage's
discarded request (log 17), and that a DRAIN of 0 ends the drain of a HELD slot too (log 38), are its readings (R74,
R75, R77, R78, R82, R118, R155, R162). -/
def Obligations.KillEdges : Prop :=
  (∀ (s : State) (order : List SlotId), s.kill = true → exec (.killAssert order) s = .next s) ∧
  (∀ s : State, s.kill = false → exec .killDeassert s = .next s) ∧
  (∀ s : State, s.kill = true →
    let queued := s.notices.summary.isClear && s.notices.armed
    exec .killDeassert s = .next { s with
      kill := false
      notices := { s.notices with
        summary := { s.notices.summary with killChange := true }
        unsent := s.notices.unsent || queued }
      presenting :=
        if queued then some (s.presenting.getD (if s.waitingAnswer.isSome then .answer else .notice))
        else s.presenting }) ∧
  ∀ (s : State) (order : List SlotId), s.Sound → s.kill = false → ∃ t,
    exec (.killAssert order) s = .next t ∧
    t = { s with
      kill := true, slots := t.slots, sequence := t.sequence, railA := { holder := none, waiting := none },
      railB := { holder := none, waiting := none }, notices := t.notices, presenting := t.presenting } ∧
    t.notices.summary.killChange = true ∧
    t.sequence = s.sequence + BitVec.ofNat 16 ((slotOrder order).countP fun j => (s.slot j).seq.state == .online) ∧
    ∀ i, let p := s.slot i
      let q := t.slot i
      let opened := ((slotOrder order).takeWhile fun j => j != i).countP fun j => (s.slot j).seq.state == .online
      (p.serving = true →
        let u : State := { s with kill := true, sequence := s.sequence + BitVec.ofNat 16 opened }
        q = (u.tripped i p .external 0 (p.tripView s.time.now)).slot i) ∧
      (p.seq.state = .offline ∨ p.seq.state = .retired ∨ p.seq.state = .empty → q = p) ∧
      (p.seq.state = .fenced → q = { p with current := { p.current with further := p.current.further ||| 0x40 } }) ∧
      (p.seq.state = .draining → q =
        { p.stopped with
          seq := { p.stopped.seq with state := .fenced, level := none, held := false }
          traffic := { p.traffic with ort := p.fencedOrt }
          lines := { p.lines with slotReset := p.lines.slotReset || !p.lines.linkUp }
          current := { p.current with further := p.current.further ||| 0x40 } }) ∧
      (p.seq.state = .recovering →
        q.seq.state = .fenced ∧ q.seq.phase = none ∧ q.seq.level = none ∧ q.seq.held = false ∧
        q.seq.phaseTimer = none ∧ q.exec.inFlight = none ∧ q.exec.step = none ∧ q.lines.slotReset = true ∧
        (q.lines.powerEnable = p.lines.powerEnable ∨ p.seq.phase = some .railWait) ∧
        q.seq.attempts = p.seq.attempts ∧ q.counters = p.counters ∧
        q.current = { p.current with further := p.current.further ||| 0x40 }) ∧
      (p.seq.state = .online →
        (q.seq.state = if p.liveCount = 0 ∨ p.seq.plan.drain = 0 then .fenced else .draining) ∧
        q.current.firstCause = .trip .external ∧ q.current.outcome = .pending ∧ q.current.tripState = .online ∧
        q.previous = p.current ∧ q.lines = p.lines ∧
        q.counters.trips = min 4294967295 (p.counters.trips + 1)) ∧
      (p.seq.state = .probation →
        (p.liveCount ≠ 0 → p.seq.plan.drain ≠ 0 → q.seq.state = .draining) ∧
        (p.liveCount = 0 ∨ p.seq.plan.drain = 0 →
          q.seq.state = match p.current.kind with
            | .fault => .fenced
            | .admission => .offline) ∧
        q.current.firstCause = p.current.firstCause ∧ q.current.further.getLsbD 6 = true ∧
        q.current.tripState = .probation ∧ q.counters.trips = min 4294967295 (p.counters.trips + 1))

/-- A removal takes a slot to EMPTY from any state: gates closed where they were open, sequence stopped, LIVE entries
fenced and no entry keeping its key, card in reset and without power, the rail given up, and the incident closed REMOVED,
one opened for it from ONLINE, where the slot's rail is in a state the Rail Arbiter can be in. An insertion takes an EMPTY
slot to OFFLINE. A level that does not change is no edge (R42, R124, R134, R135, R136, R137). -/
def Obligations.RemovalAndInsertion : Prop :=
  ∀ (s : State) (i : SlotId),
    let p := s.slot i
    let g := (if p.serving then p.gatesClosed else p).stopped
    let gone : Slot :=
      { g with
        seq := { g.seq with state := .empty, level := none, held := false }
        traffic := { g.traffic with ort := (p.traffic.ort.filter fun e => e.state != .tombstone).map fun e =>
          { e with keepKey := false, state := if e.state = .live then .fenced else e.state } }
        lines := { g.lines with slotReset := true, powerEnable := false, present := false } }
    let u := (s.withSlotAt i gone).releaseRail i
    (p.lines.present = false → exec (.removal i) s = .next s) ∧
    (p.lines.present = true → p.seq.state ≠ .online → exec (.removal i) s = .next (u.closedAt i .removed)) ∧
    (p.lines.present = true → p.seq.state = .online → s.RailOk i.rail →
      exec (.removal i) s = .next ({ u.bitRaised i with sequence := s.sequence + 1 }.withSlotAt i
        { gone with
          seq := { gone.seq with attempts := { function := 0, slot := 0, power := 0 } }
          previous := gone.current
          current := { s.faultRecord i .removal 0 (p.tripView s.time.now) with
            outcome := .removed, closeTime := some s.time.now } })) ∧
    (p.lines.present = true → exec (.insertion i) s = .next s) ∧
    (p.lines.present = false →
      exec (.insertion i) s = .next (s.withSlotAt i
        { p with
          lines := { p.lines with present := true }
          seq := if p.seq.state = .empty then { p.seq with state := .offline, level := none } else p.seq }))

/-! ### Ticks and trunk resets (chapters 1, 3 and 10) -/

/-- At the end of a tick the tick counter advances modulo 2^32, a new PRESCALE comes into force, the visit timer counts
one down, every timer of a slot that is not HELD counts one down, and a Stall Monitor counts, HELD or not, while its slot
is serving with pending work and an empty stage, and at 0 makes a STALL trip due (the model's reading, log 13); nothing else
changes (R47, R49, R51, R63, R65, R69, R116, R152). -/
def Obligations.TickEndCounts : Prop :=
  ∀ s : State, ∃ t, exec .tickEnd s = .next t ∧
    t = { s with
      slots := t.slots
      time := { s.time with now := s.time.now + 1, tickPrescale := s.time.prescale }
      health := { s.health with visitTimer := s.health.visitTimer - 1 } } ∧
    ∀ i, let p := s.slot i
      let down : UnitTimer → UnitTimer := fun x => if p.seq.held then x else x.map fun n => n - 1
      let counting : Prop := p.serving = true ∧ p.traffic.stage = none ∧
        (p.traffic.sendQueue ≠ [] ∨ ∃ e ∈ p.traffic.ort, e.state = .live)
      (counting → (t.slot i).detect = { p.detect with
        stallCount := p.detect.stallCount - 1
        stallDue := p.detect.stallDue || decide (p.detect.stallCount ≤ 1) }) ∧
      (¬counting → (t.slot i).detect = p.detect) ∧
      t.slot i = { p with
        detect := (t.slot i).detect
        seq := { p.seq with
          drainTimer := down p.seq.drainTimer
          phaseTimer := down p.seq.phaseTimer
          reissueTimer := down p.seq.reissueTimer
          probationTimer := down p.seq.probationTimer }
        exec := { p.exec with
          stepTimer := down p.exec.stepTimer
          reissueTimer := down p.exec.reissueTimer
          intervalTimer := down p.exec.intervalTimer
          limitTimer := down p.exec.limitTimer
          pauseTimer := down p.exec.pauseTimer } }

/-- A trunk reset loses the head, the Send Queues, the stages, the SAQ, every ORT entry, the waiting answer, the unsent
notice and the mailbox, and every Receive Queue entry but the executor's answers; it counts the card requests it drops
(that these include configuration requests is the model's reading, log 20); it completes a RESET PART in progress, and
then ends the drain of every DRAINING slot, in an order that is an operand, the model's choice (log 10); nothing else
changes. After it nothing is unsent, waiting or presented, a notice that the end of a drain queues in the event included
(the model's reading, log 19). In every sound state it owes the host nothing more, and a DRAINING slot goes to OFFLINE
with its incident FAILED, to FENCED, or, with an automatic cause and KILL deasserted, to RECOVERING or RETIRED. TRUNK_UP
opens ingress and egress again (R15, R17, R19, R20, R21, R43, R64, R84, R85, R98, R123, R163, R173, R175). -/
def Obligations.TrunkResetLoses : Prop :=
  (∀ (s : State) (order : List SlotId), ∃ slots : PerSlot Slot,
    (∀ i, let p := s.slot i
      let lost := p.traffic.recvQueue.countP (fun tx => !isAnswer tx) +
        (match p.traffic.stage with
          | some tx => if isAnswer tx then 0 else 1
          | none => 0)
      slots.get i =
        { p with
          traffic := { p.traffic with
            sendQueue := [], stage := none, ort := []
            recvQueue := p.traffic.recvQueue.filter fun tx =>
              match tx with
              | .answer r _ _ _ _ _ => r == 0xFFFF
              | _ => false }
          detect := { p.detect with stallCount := p.detect.monitor.stallLimit }
          counters := { p.counters with
            droppedCardRequests := min 4294967295 (p.counters.droppedCardRequests + lost) }
          current := if p.current.outcome = .pending then
              { p.current with dropped := min 65535 (p.current.dropped + lost) }
            else p.current }) ∧
    let u : State := { s with
      slots := slots, head := none, trunkUp := false, saq := [], lastServed := .mgt
      mailbox := { s.mailbox with
        state := .idle, result := .ok, goLost := false, code := 0, command := 0
        params := Vector.replicate 8 0, response := Vector.replicate 16 0 } }
    let v : State := if s.resetScope.isSome then { u.resetEnded with mailbox := u.mailbox } else u
    let w := (slotOrder order).foldl (fun x i => if (x.slot i).seq.state = .draining then x.endDraining i else x) v
    exec (.trunkReset order) s = .next { w with
      notices := { w.notices with unsent := false }, waitingAnswer := none, presenting := none } ∧
    ((∀ i, (s.slot i).seq.state ≠ .draining) → s.resetScope = none → w = u)) ∧
  (∀ (s : State) (order : List SlotId), ∃ t,
    exec (.trunkReset order) s = .next t ∧ t.waitingAnswer = none ∧ t.presenting = none ∧ t.notices.unsent = false ∧
    t.counters = s.counters ∧ t.trunkSent = s.trunkSent ∧ t.mailbox.state = .idle ∧ t.resetScope = none) ∧
  (∀ (s : State) (order : List SlotId), s.Sound → ∃ t,
    exec (.trunkReset order) s = .next t ∧ t.debt = 0 ∧ t.head = none ∧ t.trunkUp = false ∧ t.waitingAnswer = none ∧
    t.mailbox.state = .idle ∧ t.resetScope = none ∧ t.trunkSent = s.trunkSent ∧
    (∀ i, (t.slot i).seq.state ≠ .draining ∧ (t.slot i).traffic.ort = [] ∧ (t.slot i).traffic.sendQueue = []) ∧
    (∀ i, (s.slot i).seq.state = .draining →
      let p := s.slot i
      let q := t.slot i
      let automatic : Prop := ∃ c, p.current.firstCause = .trip c ∧ c ≠ .external ∧
        p.seq.plan.autoCauses.getLsbD c.number = true ∧ s.kill = false
      (p.current.kind = .admission → q.seq.state = .offline ∧ q.current.outcome = .failed ∧
        q.lines.slotReset = true ∧ q.lines.powerEnable = false) ∧
      (p.current.kind = .fault → ¬automatic → q.seq.state = .fenced ∧ q.current.outcome = .pending ∧ q.lines = p.lines) ∧
      (p.current.kind = .fault → automatic →
        q.seq.sample = p.seq.plan ∧
        ((q.seq.state = .recovering ∧ q.current.outcome = .pending) ∨
          (q.seq.state = .retired ∧ q.current.outcome = .retired)))) ∧
    (s.resetScope.isSome = true →
      t.windowActive = defaultWindows ∧ t.windowStaging = defaultWindows ∧
      t.slotBus = { s0 := 0, s1 := 0, s2 := 0, s3 := 0 } ∧ t.health.visit = 250 ∧
      t.notices = Notices.default ∧
      ∀ i, (t.slot i).seq.plan = Plan.default ∧ (t.slot i).deadlines = DeadlineUnit.default ∧
        (t.slot i).detect.monitor = MonitorRecord.default ∧ (t.slot i).script = ScriptStore.default)) ∧
  ∀ s : State, exec .trunkUp s = .next { s with trunkUp := true }

/-! ### Mailbox commands (chapters 1, 3, 4, 6, 8, 9 and 10) -/

/-- R9: SET WINDOW writes one staging window, base and limit brought to page ends and a limit below the base to that
base's page, CLAMPED where that changed one; a slot above 3 and an index above 15 are refused. Nothing but the staging
copy, which traffic does not see, and the mailbox changes. -/
def Obligations.WindowStaged : Prop :=
  ∀ (s : State) (r : Requester) (t : Tag), s.GoReady r t 0x01 →
    let par := s.mailbox.params
    let index := par[0].toNat % 256
    let base : Address := par[2] ++ par[1]
    let limit : Address := par[4] ++ par[3]
    let newBase : Address := base.extractLsb' 12 52 ++ (0 : BitVec 12)
    let pageEnd : Address := base.extractLsb' 12 52 ++ (0xFFF : BitVec 12)
    let raised : Address := limit.extractLsb' 12 52 ++ (0xFFF : BitVec 12)
    let newLimit := if raised.toNat < newBase.toNat then pageEnd else raised
    (4 ≤ s.mailbox.command.toNat / 256 % 256 → exec .setWindow s = .next ((s.afterGo r t).finished .badSlot [])) ∧
    ∀ i, s.NamesSlot i →
      (16 ≤ index → exec .setWindow s = .next ((s.afterGo r t).finished .badIndex [])) ∧
      (index < 16 → ∃ (staging : Vector Window 16) (d : Dword),
        exec .setWindow s = .next (({ s.afterGo r t with windowStaging := staging } : State).finished
          (if newBase = base ∧ newLimit = limit then .ok else .clamped)
          [d, newBase.extractLsb' 0 32, newBase.extractLsb' 32 32, newLimit.extractLsb' 0 32,
            newLimit.extractLsb' 32 32]) ∧
        (∀ k : Fin 16, staging[k] = if k.val = index then
            { valid := par[0].getLsbD 8, base := newBase, limit := newLimit, slot := i,
              readRight := par[0].getLsbD 9, writeRight := par[0].getLsbD 10 }
          else s.windowStaging[k]) ∧
        d.toNat = index + 256 * (par[0].getLsbD 8).toNat + 512 * (par[0].getLsbD 9).toNat +
          1024 * (par[0].getLsbD 10).toNat)

/-- COMMIT WINDOWS copies the staging windows; SET SLOT BUS, SET MONITOR, SET VISIT and SET TIMEBASE write their values
brought into range, CLAMPED where that changed one; a Stall Monitor count above a new STALL_LIMIT is lowered to it (R10,
R11, R48, R72, R73). -/
def Obligations.TablesSet : Prop :=
  ∀ (s : State) (r : Requester) (t : Tag),
    let par : Fin 8 → Nat := fun k => s.mailbox.params[k].toNat
    let u := s.afterGo r t
    let stall := max 100 (min 65535 (par 0))
    let err := max 1 (min 255 (par 1))
    let stray := max 1 (min 255 (par 2))
    let decay := min 15 (par 3)
    let visit := max 16 (min 4095 (par 0))
    let prescale := max 9 (min 65535 (par 0))
    (s.GoReady r t 0x02 →
      exec .commitWindows s = .next (({ u with windowActive := s.windowStaging } : State).finished .ok [])) ∧
    (∀ i, s.GoReady r t 0x03 → s.NamesSlot i →
      exec .setSlotBus s = .next
        (({ u with slotBus := s.slotBus.set i (BitVec.ofNat 8 (min 255 (par 0))) } : State).finished
          (if par 0 ≤ 255 then .ok else .clamped) [BitVec.ofNat 32 (min 255 (par 0))])) ∧
    (∀ i, s.GoReady r t 0x0A → s.NamesSlot i →
      exec .setMonitor s = .next ((u.withSlotAt i
        { s.slot i with detect := { (s.slot i).detect with
            monitor := { stallLimit := stall, errThresh := err, strayThresh := stray, decay := decay }
            stallCount := min (s.slot i).detect.stallCount stall } }).finished
        (if stall = par 0 ∧ err = par 1 ∧ stray = par 2 ∧ decay = par 3 then .ok else .clamped)
        [BitVec.ofNat 32 stall, BitVec.ofNat 32 err, BitVec.ofNat 32 stray, BitVec.ofNat 32 decay])) ∧
    (s.GoReady r t 0x0B →
      exec .setVisit s = .next (({ u with health := { s.health with visit := visit } } : State).finished
        (if visit = par 0 then .ok else .clamped) [BitVec.ofNat 32 visit])) ∧
    (s.GoReady r t 0x0C →
      exec .setTimebase s = .next (({ u with time := { s.time with prescale := prescale } } : State).finished
        (if prescale = par 0 then .ok else .clamped) [BitVec.ofNat 32 prescale, s.time.now]))

/-- SET PLAN brings every number of P0 to P7 into range and refuses with PLAN_INVALID a plan whose codes name nothing,
whose START LEVEL is not available, whose RETIRE ACTION is POWER_OFF without power control, or whose AUTO CAUSES name
something else; else it replaces the record, never the sample, CLAMPED where a number changed, and answers the record in
the layout of the parameters. Without a FUNCTION RESET WRITE its fields are disregarded and answered 0 (the model's
reading, log 22) (R100, R101, R177). -/
def Obligations.PlanSet : Prop :=
  ∀ (s : State) (r : Requester) (t : Tag) (i : SlotId), s.GoReady r t 0x08 → s.NamesSlot i →
    let f : Fin 8 → Nat → Nat → Nat := fun k lo w => s.mailbox.params[k].toNat / 2 ^ lo % 2 ^ w
    let start := f 0 0 2
    let style := f 0 2 2
    let action := f 0 4 2
    let hasReset : Bool := decide (f 0 8 1 = 1)
    let offset := if hasReset then min 4092 (f 1 16 16) / 4 * 4 else 0
    let powered := (s.slot i).lines.powerControl
    let usable : Prop := start ≠ 0 ∧ style ≤ 1 ∧ action ≤ 1 ∧ f 1 8 8 = 0 ∧ (start = 1 → hasReset = true) ∧
      (start = 3 → powered = true) ∧ (action = 1 → powered = true)
    let kept : Prop := f 0 12 3 ≠ 0 ∧ f 0 16 3 ≠ 0 ∧ f 0 20 3 ≠ 0 ∧ (hasReset = true → offset = f 1 16 16) ∧
      f 3 0 16 ≤ 255 ∧ (1 ≤ f 3 16 16 ∧ f 3 16 16 ≤ 1000) ∧ (10 ≤ f 4 0 16 ∧ f 4 0 16 ≤ 10000) ∧
      (1 ≤ f 4 16 16 ∧ f 4 16 16 ≤ 1000) ∧ (1 ≤ f 5 0 16 ∧ f 5 0 16 ≤ 1000) ∧
      (10 ≤ f 5 16 16 ∧ f 5 16 16 ≤ 5000) ∧ f 6 0 16 ≤ 1000 ∧ (1 ≤ f 6 16 16 ∧ f 6 16 16 ≤ 1000) ∧ f 7 0 16 ≤ 60000
    (¬usable → exec .setPlan s = .next ((s.afterGo r t).finished .planInvalid [])) ∧
    (usable → ∃ (q : Plan) (res : Result) (d : Vector Dword 8),
      exec .setPlan s = .next (((s.afterGo r t).withSlotAt i
        { s.slot i with seq := { (s.slot i).seq with plan := q } }).finished res d.toList) ∧
      (kept → res = .ok) ∧ (¬kept → res = .clamped) ∧
      q.startLevel.rank = start ∧ (q.style = .abort ↔ style = 1) ∧ (q.retireAction = .powerOff ↔ action = 1) ∧
      (q.restoreOnRecovery = true ↔ f 0 6 1 = 1) ∧ (q.restoreOnAdmit = true ↔ f 0 7 1 = 1) ∧
      q.attempts = { function := max 1 (f 0 12 3), slot := max 1 (f 0 16 3), power := max 1 (f 0 20 3) } ∧
      q.autoCauses.toNat = f 1 0 8 ∧
      q.functionReset = (if hasReset then
        some { offset := BitVec.ofNat 12 offset, data := s.mailbox.params[2] } else none) ∧
      q.drain = min 255 (f 3 0 16) ∧ q.assert = max 1 (min 1000 (f 3 16 16)) ∧
      q.off = max 10 (min 10000 (f 4 0 16)) ∧ q.pwrgdLimit = max 1 (min 1000 (f 4 16 16)) ∧
      q.onSettle = max 1 (min 1000 (f 5 0 16)) ∧ q.linkLimit = max 10 (min 5000 (f 5 16 16)) ∧
      q.settle = min 1000 (f 6 0 16) ∧ q.stepLimit = max 1 (min 1000 (f 6 16 16)) ∧
      q.probation = min 60000 (f 7 0 16) ∧
      d[0].toNat = start + 4 * style + 16 * action + 64 * f 0 6 1 + 128 * f 0 7 1 + 256 * f 0 8 1 +
        4096 * q.attempts.function + 65536 * q.attempts.slot + 1048576 * q.attempts.power ∧
      d[1].toNat = f 1 0 8 + 65536 * offset ∧ (d[2] = if hasReset then s.mailbox.params[2] else 0) ∧
      d[3].toNat = q.drain + 65536 * q.assert ∧ d[4].toNat = q.off + 65536 * q.pwrgdLimit ∧
      d[5].toNat = q.onSettle + 65536 * q.linkLimit ∧ d[6].toNat = q.settle + 65536 * q.stepLimit ∧
      d[7].toNat = q.probation)

/-- R53: SET LIMITS writes one class's record of one slot with its values brought into range in order, a CFG record with
PER16 0, and resets that class's estimator in the same event, whether the record changes or not; a slot above 3 and a
class that is none are refused. The slot's state is not looked at, and entries already admitted are not touched. -/
def Obligations.LimitsSet : Prop :=
  ∀ (s : State) (r : Requester) (t : Tag), s.GoReady r t 0x09 →
    let par : Fin 8 → Nat := fun k => s.mailbox.params[k].toNat
    let floor := if par 1 = 0 then 1 else min 65535 (par 1)
    let ceil := max floor (min 65535 (par 2))
    let mult := max 4 (min 255 (par 3))
    let per := min 255 (par 4)
    (4 ≤ s.mailbox.command.toNat / 256 % 256 → exec .setLimits s = .next ((s.afterGo r t).finished .badSlot [])) ∧
    ∀ i, s.NamesSlot i →
      (2 ≤ par 0 → exec .setLimits s = .next ((s.afterGo r t).finished .badIndex [])) ∧
      (par 0 = 0 →
        exec .setLimits s = .next (((s.afterGo r t).withSlotAt i
          { s.slot i with deadlines := { (s.slot i).deadlines with
              memLimits := { floor := floor, ceil := ceil, mult := mult, per16 := per }
              memEst := { est16 := 0, samples := 0 } } }).finished
          (if floor = par 1 ∧ ceil = par 2 ∧ mult = par 3 ∧ per = par 4 then .ok else .clamped)
          [BitVec.ofNat 32 floor, BitVec.ofNat 32 ceil, BitVec.ofNat 32 mult, BitVec.ofNat 32 per])) ∧
      (par 0 = 1 →
        exec .setLimits s = .next (((s.afterGo r t).withSlotAt i
          { s.slot i with deadlines := { (s.slot i).deadlines with
              cfgLimits := { floor := floor, ceil := ceil, mult := mult, per16 := 0 }
              cfgEst := { est16 := 0, samples := 0 } } }).finished
          (if floor = par 1 ∧ ceil = par 2 ∧ mult = par 3 then .ok else .clamped)
          [BitVec.ofNat 32 floor, BitVec.ofNat 32 ceil, BitVec.ofNat 32 mult, 0]))

/-- LOAD STEP writes one settled step of the staging copy; SET SCRIPT LENGTH sets its length, positions cut off becoming
PAUSE 1 (from the new length to the last position, the model's reading, log 21); COMMIT SCRIPT copies the script inside
that length to the active copy, or is deferred in RESTORING; CAPTURE sets its flag and clears the overflow. LOAD STEP
disregards the fields its step kind does not use and answers them 0 (the model's reading, log 22) (R140, R141, R142, R143,
R144). -/
def Obligations.ScriptsEdited : Prop :=
  ∀ (s : State) (r : Requester) (t : Tag) (i : SlotId), s.NamesSlot i →
    let par := s.mailbox.params
    let u := s.afterGo r t
    let sc := (s.slot i).script
    let put : ScriptStore → State := fun v => u.withSlotAt i { s.slot i with script := v }
    let index := par[0].toNat % 256
    let kind := par[0].toNat / 256 % 256
    let off := min 4092 par[1].toNat / 4 * 4
    let time := max 1 (min 1000 par[4].toNat)
    (s.GoReady r t 0x10 →
      (64 ≤ index ∨ 4 ≤ kind → exec .loadStep s = .next (u.finished .badIndex [])) ∧
      (index < 64 → kind < 4 → ∃ (st : Step) (staging : Vector Step 64) (res : Result) (data : List Dword) (d : Dword),
        exec .loadStep s = .next ((put { sc with staging := staging }).finished res (d :: data)) ∧
        d.toNat = index + 256 * kind ∧
        (∀ k : Fin 64, staging[k] = if k.val = index then st else sc.staging[k]) ∧
        (kind = 0 → st = .write (BitVec.ofNat 12 off) (par[2].extractLsb' 0 4) par[3] ∧
          res = (if off = par[1].toNat then .ok else .clamped) ∧
          data = [BitVec.ofNat 32 off, BitVec.ofNat 32 (par[2].toNat % 16), par[3], 0]) ∧
        (kind = 1 → st = .verify (BitVec.ofNat 12 off) par[2] par[3] ∧
          res = (if off = par[1].toNat then .ok else .clamped) ∧ data = [BitVec.ofNat 32 off, par[2], par[3], 0]) ∧
        (kind = 2 → st = .poll (BitVec.ofNat 12 off) par[2] par[3] time ∧
          res = (if off = par[1].toNat ∧ time = par[4].toNat then .ok else .clamped) ∧
          data = [BitVec.ofNat 32 off, par[2], par[3], BitVec.ofNat 32 time]) ∧
        (kind = 3 → st = .pause time ∧ res = (if time = par[4].toNat then .ok else .clamped) ∧
          data = [0, 0, 0, BitVec.ofNat 32 time]))) ∧
    (s.GoReady r t 0x11 → ∃ staging : Vector Step 64,
      let n := min 64 par[0].toNat
      exec .setScriptLength s = .next ((put { sc with staging := staging, stagingLength := n }).finished
        (if par[0].toNat ≤ 64 then .ok else .clamped) [BitVec.ofNat 32 n]) ∧
      (sc.stagingLength ≤ n → staging = sc.staging) ∧
      (n < sc.stagingLength → ∀ k : Fin 64, staging[k] = if k.val < n then sc.staging[k] else .pause 1)) ∧
    (s.GoReady r t 0x12 →
      (sc.commitPending = true → exec .commitScript s = .next (u.finished .deferred [])) ∧
      (sc.commitPending = false → (s.slot i).seq.phase = some .restoring →
        exec .commitScript s = .next ((put { sc with commitPending := true }).finished .deferred [])) ∧
      (sc.commitPending = false → (s.slot i).seq.phase ≠ some .restoring →
        exec .commitScript s =
          .next ((put { sc with active := sc.staging.toList.take sc.stagingLength }).finished .ok []))) ∧
    (s.GoReady r t 0x13 →
      exec .capture s = .next ((put { sc with capture := par[0].getLsbD 0, overflow := false }).finished .ok []))

/-- What a delivered CONFIG WRITE does to a staging copy: nothing with capture off or no byte enabled; else it is
merged, byte by byte, into the first WRITE step of its offset inside the script, or appended as a WRITE step, or sets
the overflow flag of a full script. That byte enable b is that of bits 8b to 8b+7 of the dword is the model's reading
(log 23) (R145). -/
def Obligations.CaptureMerges : Prop :=
  ∀ (sc : ScriptStore) (off : Offset) (be : ByteEnables) (data : Dword), sc.stagingLength ≤ 64 →
    (sc.capture = false ∨ be = 0 → sc.captureWrite off be data = sc) ∧
    (sc.capture = true → be ≠ 0 →
      (∀ (k : Fin 64) (e : ByteEnables) (v : Dword), k.val < sc.stagingLength → sc.staging[k] = .write off e v →
        (∀ j : Fin 64, j < k → ∀ e' v', sc.staging[j] ≠ .write off e' v') → ∃ (w : Dword) (staging : Vector Step 64),
        sc.captureWrite off be data = { sc with staging := staging } ∧
        (∀ j : Fin 64, staging[j] = if j = k then .write off (e ||| be) w else sc.staging[j]) ∧
        ∀ b, b < 32 → w.getLsbD b = if be.getLsbD (b / 8) then data.getLsbD b else v.getLsbD b) ∧
      ((∀ k : Fin 64, k.val < sc.stagingLength → ∀ e v, sc.staging[k] ≠ .write off e v) →
        (sc.stagingLength < 64 → ∃ staging : Vector Step 64,
          sc.captureWrite off be data = { sc with staging := staging, stagingLength := sc.stagingLength + 1 } ∧
          ∀ j : Fin 64, staging[j] = if j.val = sc.stagingLength then .write off be data else sc.staging[j]) ∧
        (sc.stagingLength = 64 → sc.captureWrite off be data = { sc with overflow := true })))

/-- ADMIT takes a plan sample, opens an ADMISSION incident and begins the bring-up: at POWER where the slot has power
control and its power is off, else at SLOT. RECOVER takes a plan sample and climbs the ladder, or begins an aborted
admission again. Both are refused in any other state and while KILL is asserted. That the answer to ADMIT's GO is
presented before the notice it queues is the model's reading (log 34) (R75, R102, R119, R122, R130, R155, R156). -/
def Obligations.BringUpBegins : Prop :=
  ∀ (s : State) (r : Requester) (t : Tag) (i : SlotId), s.NamesSlot i →
    let u := s.afterGo r t
    let p := (s.slot i).sampled
    let record : Incident :=
      { sequence := s.sequence + 1, kind := .admission, slot := i, firstCause := .admission, further := 0,
        tripState := .offline, openTime := s.time.now,
        view :=
          { liveCount := 0, snapshot := none, memEst := p.deadlines.memEst.est16 / 16,
            cfgEst := p.deadlines.cfgEst.est16 / 16 },
        highest := none, attempts := { function := 0, slot := 0, power := 0 }, synthetic := 0, dropped := 0, stale := 0,
        outcome := .pending, closeTime := none }
    let bringUp : State → Slot → State := fun v q =>
      if q.lines.powerControl = true ∧ q.lines.powerEnable = false then
        if (v.rail i.rail).holder = none then
          (v.setRail i.rail { v.rail i.rail with holder := some i }).withSlotAt i (q.attempting .power).inPowerOff
        else (v.setRail i.rail { v.rail i.rail with waiting := some i }).withSlotAt i
          ((q.attempting .power).inPhase .railWait none)
      else v.withSlotAt i (q.attempting .slot).inResetAssert
    (s.GoReady r t 0x18 →
      ((s.slot i).seq.state = .offline → s.kill = false →
        exec .admitSlot s = .next ((bringUp { u.bitRaised i with sequence := s.sequence + 1 }
          { p with previous := p.current, current := record }).finished .ok
          [BitVec.ofNat 32 (s.sequence + 1).toNat])) ∧
      ((s.slot i).seq.state ≠ .offline ∨ s.kill = true →
        exec .admitSlot s = .next (u.finished .wrongState []))) ∧
    (s.GoReady r t 0x1A →
      ((s.slot i).seq.state = .fenced → s.kill = false → (s.slot i).current.kind = .fault →
        let v := (u.withSlotAt i p).climb i false
        exec .recover s = .next (v.finished .ok [(v.slot i).queryDword])) ∧
      ((s.slot i).seq.state = .fenced → s.kill = false → (s.slot i).current.kind = .admission →
        let v := bringUp u p
        exec .recover s = .next (v.finished .ok [(v.slot i).queryDword])) ∧
      ((s.slot i).seq.state ≠ .fenced ∨ s.kill = true →
        exec .recover s = .next (u.finished .wrongState [])))

/-- HOLD, RESUME, ABORT, RETIRE and RELEASE, each in the states that allow it and refused with WRONG_STATE in every other:
HOLD sets HELD alone; RESUME clears it and issues the access that was withheld; ABORT leaves the slot FENCED with its
incident PENDING and nothing counted; RETIRE retires by the plan record; RELEASE goes to OFFLINE with the card in reset. That
the answer to the GO is presented before a notice that a closing queues is the model's reading (log 34) (R113, R116, R117, R118, R120, R121). -/
def Obligations.SequencerCommanded : Prop :=
  ∀ (s : State) (r : Requester) (t : Tag) (i : SlotId), s.NamesSlot i →
    let u := s.afterGo r t
    let p := s.slot i
    let free : Slot := { p with seq := { p.seq with held := false } }
    let working : Prop := p.seq.state = .draining ∨ p.seq.state = .recovering ∨ p.seq.state = .probation
    let aborted : Slot → Bool → Slot := fun q asserted =>
      { q.stopped with
        seq := { q.stopped.seq with state := .fenced, level := none, held := false }
        lines := { q.lines with slotReset := q.lines.slotReset || asserted } }
    (s.GoReady r t 0x1B →
      (working → exec .hold s =
        .next ((u.withSlotAt i { p with seq := { p.seq with held := true } }).finished .ok [])) ∧
      (¬working → exec .hold s = .next (u.finished .wrongState []))) ∧
    (s.GoReady r t 0x1C →
      (p.seq.held = true → p.exec.withheld = false →
        exec .resume s = .next ((u.withSlotAt i free).finished .ok [])) ∧
      (∀ w, p.seq.held = true → p.exec.withheld = true → p.seq.phase = some .functionReset →
        p.seq.sample.functionReset = some w →
        exec .resume s = .next ((u.withSlotAt i (free.issuing (.write w.offset 0xF w.data))).finished .ok [])) ∧
      (∀ k st a, p.seq.held = true → p.exec.withheld = true → p.seq.phase = some .restoring → p.exec.step = some k →
        p.script.active[k]? = some st → st.access = some a →
        exec .resume s = .next ((u.withSlotAt i (free.issuing a)).finished .ok [])) ∧
      (p.seq.held = false → exec .resume s = .next (u.finished .wrongState []))) ∧
    (s.GoReady r t 0x1D →
      (p.seq.state = .draining →
        exec .abort s = .next (((u.withSlotAt i (aborted
          { p with traffic := { p.traffic with ort := p.fencedOrt } } (!p.lines.linkUp))).releaseRail i).finished .ok [])) ∧
      (p.seq.state = .recovering →
        exec .abort s = .next (((u.withSlotAt i (aborted p true)).releaseRail i).finished .ok [])) ∧
      (p.seq.state = .probation →
        exec .abort s = .next (((u.withSlotAt i (aborted
          { p.gatesClosed with traffic := { p.gatesClosed.traffic with ort := p.fencedOrt } } true)).releaseRail
          i).finished .ok [])) ∧
      (¬working → exec .abort s = .next (u.finished .wrongState []))) ∧
    (s.GoReady r t 0x1E →
      (p.seq.state = .fenced → exec .retire s = .next ((u.retiredAt i p.seq.plan.retireAction).finished .ok [])) ∧
      (p.seq.state ≠ .fenced → exec .retire s = .next (u.finished .wrongState []))) ∧
    (s.GoReady r t 0x1F →
      (p.seq.state = .fenced ∨ p.seq.state = .retired →
        exec .release s = .next (((u.withSlotAt i
          { p with
            seq := { p.seq with state := .offline, level := none, held := false }
            lines := { p.lines with slotReset := true } }).closedAt i .aborted).finished .ok [])) ∧
      (p.seq.state ≠ .fenced → p.seq.state ≠ .retired →
        exec .release s = .next (u.finished .wrongState [])))

/-- QUERY SLOT, READ INCIDENT and READ COUNTERS answer what the slot, the selected record and the counters hold, each in
its layout and with its codes, QUERY SLOT with the timer of its state, phase or step, and change nothing but the counters
the clear option names; another selector or option is refused. A cause set has bits 0 to 7 for the eight causes (R51, R104,
R148, R154, R159, R161, R176, R177, R178). -/
def Obligations.ManagementReads : Prop :=
  ∀ (s : State) (r : Requester) (t : Tag) (i : SlotId), s.NamesSlot i →
    let u := s.afterGo r t
    let p := s.slot i
    let sel := s.mailbox.params[0].toNat
    let counters : List Dword :=
      [p.counters.forwarded, p.counters.synthetic, p.counters.stale, p.counters.stray, p.counters.droppedCardRequests,
        p.counters.droppedWrites, p.counters.duplicateKeys, p.counters.trips, s.counters.unrouted, s.counters.rights,
        s.counters.notices].map (BitVec.ofNat 32)
    let zeroed : Slot := { p with counters :=
      { forwarded := 0, synthetic := 0, stale := 0, stray := 0, droppedCardRequests := 0, droppedWrites := 0,
        duplicateKeys := 0, trips := 0 } }
    let levelCode : Option Level → Nat := fun l =>
      match l with
      | none => 0
      | some .function => 1
      | some .slot => 2
      | some .power => 3
    let stateCode :=
      match p.seq.state with
      | .empty => 0
      | .offline => 1
      | .online => 2
      | .draining => 3
      | .fenced => 4
      | .recovering => 5
      | .probation => 6
      | .retired => 7
    let phaseCode :=
      match p.seq.phase with
      | none => 0
      | some .functionReset => 1
      | some .resetAssert => 2
      | some .railWait => 3
      | some .powerOff => 4
      | some .powerOn => 5
      | some .resetRelease => 6
      | some .linkWait => 7
      | some .settle => 8
      | some .restoring => 9
    let stepTimer : UnitTimer :=
      match p.exec.step with
      | none => none
      | some k =>
        match p.script.active[k]? with
        | some (.write _ _ _) => p.exec.stepTimer
        | some (.verify _ _ _) => p.exec.stepTimer
        | some (.poll _ _ _ _) => p.exec.limitTimer
        | some (.pause _) => p.exec.pauseTimer
        | none => none
    let timer : UnitTimer :=
      if p.seq.state = .draining then p.seq.drainTimer
      else if p.seq.state = .probation then p.seq.probationTimer
      else if p.seq.state = .recovering then
        if p.seq.phase = some .restoring then stepTimer
        else if p.seq.phase = some .railWait ∨ p.seq.phase = none then none
        else p.seq.phaseTimer
      else none
    (s.GoReady r t 0x20 → ∃ d0 d1 d2 : Dword,
      exec .querySlot s = .next (u.finished .ok [d0, d1, d2]) ∧ d0 = p.queryDword ∧
      d0.toNat = stateCode + 16 * phaseCode + 256 * levelCode p.seq.level +
        4096 * p.seq.held.toNat + 8192 * p.script.commitPending.toNat + 16384 * p.script.capture.toNat +
        32768 * p.script.overflow.toNat + 65536 * ((timer.getD 0 + 1023) / 1024 % 65536) ∧
      d1.toNat = p.seq.attempts.function % 16 + 16 * (p.seq.attempts.slot % 16) + 256 * (p.seq.attempts.power % 16) +
        65536 * (p.traffic.sendQueue.length % 32) ∧
      d2.toNat = p.traffic.ort.countP (fun e => e.state == .live) % 256 +
        256 * (p.traffic.ort.countP (fun e => e.state == .fenced) % 256) +
        65536 * (p.traffic.ort.countP (fun e => e.state == .answering) % 256) +
        16777216 * (p.traffic.ort.countP (fun e => e.state == .tombstone) % 256)) ∧
    (s.GoReady r t 0x21 →
      (2 ≤ sel → exec .readIncident s = .next (u.finished .badIndex [])) ∧
      (sel < 2 →
        let rec' := if sel = 0 then p.current else p.previous
        let kindCode :=
          match rec'.kind with
          | .fault => 0
          | .admission => 1
        let causeCode :=
          match rec'.firstCause with
          | .trip .deadline => 0
          | .trip .stall => 1
          | .trip .linkDown => 2
          | .trip .linkErrors => 3
          | .trip .strayAnswers => 4
          | .trip .powerLoss => 5
          | .trip .external => 6
          | .trip .commanded => 7
          | .removal => 8
          | .admission => 9
        let outcomeCode :=
          match rec'.outcome with
          | .none => 0
          | .pending => 1
          | .recovered => 2
          | .retired => 3
          | .failed => 4
          | .aborted => 5
          | .removed => 6
        let tripStateCode :=
          match rec'.tripState with
          | .online => 0
          | .probation => 1
          | .offline => 2
        ∃ (d : Vector Dword 7) (e : Vector Dword 4),
        exec .readIncident s = .next (u.finished .ok (d.toList ++ e.toList)) ∧
        d[0].toNat = rec'.sequence.toNat + 65536 * rec'.slot.toNat + 262144 * kindCode +
          1048576 * causeCode + 16777216 * outcomeCode + 268435456 * levelCode rec'.highest ∧
        d[1].toNat = rec'.further.toNat + 256 * tripStateCode + 4096 * (rec'.attempts.function % 8) +
          65536 * (rec'.attempts.slot % 8) + 1048576 * (rec'.attempts.power % 8) +
          16777216 * (rec'.view.liveCount % 64) + 1073741824 * rec'.view.snapshot.isSome.toNat +
          2147483648 * rec'.closeTime.isSome.toNat ∧
        d[2] = rec'.openTime ∧ d[3] = rec'.closeTime.getD 0 ∧
        d[4].toNat = rec'.view.memEst % 65536 + 65536 * (rec'.view.cfgEst % 65536) ∧
        d[5].toNat = rec'.synthetic % 65536 + 65536 * (rec'.dropped % 65536) ∧
        d[6].toNat = rec'.stale % 65536 ∧
        (rec'.view.snapshot = none → e = Vector.replicate 4 0) ∧
        ∀ n, rec'.view.snapshot = some n →
          e[0].toNat / 256 = n.tag.toNat + 256 * n.requester.toNat ∧ e[3].toNat = n.age % 65536 ∧
          match n.target with
          | .memRead a => e[0].toNat % 256 = 0 ∧ e[1] = a.extractLsb' 0 32 ∧ e[2] = a.extractLsb' 32 32
          | .cfgRead off => e[0].toNat % 256 = 1 ∧ e[1].toNat = off.toNat ∧ e[2] = 0
          | .cfgWrite off => e[0].toNat % 256 = 2 ∧ e[1].toNat = off.toNat ∧ e[2] = 0) ∧
      TripCause.deadline.mask = 0x01 ∧ TripCause.stall.mask = 0x02 ∧ TripCause.linkDown.mask = 0x04 ∧
      TripCause.linkErrors.mask = 0x08 ∧ TripCause.strayAnswers.mask = 0x10 ∧ TripCause.powerLoss.mask = 0x20 ∧
      TripCause.external.mask = 0x40 ∧ TripCause.commanded.mask = 0x80) ∧
    (s.GoReady r t 0x22 →
      (3 ≤ sel → exec .readCounters s = .next (u.finished .badIndex [])) ∧
      (sel = 0 → exec .readCounters s = .next (u.finished .ok counters)) ∧
      (sel = 1 → exec .readCounters s = .next ((u.withSlotAt i zeroed).finished .ok counters)) ∧
      (sel = 2 → exec .readCounters s =
        .next ((({ u with counters := { unrouted := 0, rights := 0, notices := 0 } } : State).withSlotAt i
          zeroed).finished .ok counters)))

/-- SET NOTICE writes address and enable, the low two address bits cleared, and ACK NOTICES clears the named summary bits.
Each withdraws an unsent notice it leaves no ground for (disabled, no address; a clear summary) and queues one where the
notices are armed and a bit is set. A withdrawn notice is no longer presented, the waiting answer is instead; a queued one
is presented unless something is, the GO's answer being there first (the model's reading, log 34) (R162, R163, R164, R165, R169, R179). -/
def Obligations.NoticesManaged : Prop :=
  ∀ (s : State) (r : Requester) (t : Tag),
    let par := s.mailbox.params
    let given : Address := par[1] ++ par[0]
    let address : Address := given.extractLsb' 2 62 ++ (0 : BitVec 2)
    let enabled := par[2].getLsbD 0
    let sum := s.notices.summary
    let left : Summary :=
      { slots :=
          { s0 := sum.slots.s0 && !par[0].getLsbD 0, s1 := sum.slots.s1 && !par[0].getLsbD 1,
            s2 := sum.slots.s2 && !par[0].getLsbD 2, s3 := sum.slots.s3 && !par[0].getLsbD 3 }
        killChange := sum.killChange && !par[0].getLsbD 4 }
    let shown : Option Presented := some (if s.presenting = some .notice then .notice else .answer)
    (s.GoReady r t 0x28 → ∃ presenting,
      let armed := enabled && address != 0
      let unsent := armed && (s.notices.unsent || !sum.isClear)
      exec .setNotice s = .next (({ s.afterGo r t with
        notices := { summary := sum, enabled := enabled, address := address, unsent := unsent }
        presenting := presenting } : State).finished (if address = given then .ok else .clamped)
        [address.extractLsb' 0 32, address.extractLsb' 32 32, if enabled then 1 else 0]) ∧
      (armed = true → presenting = shown) ∧ (armed = false → presenting = some .answer)) ∧
    (s.GoReady r t 0x29 → ∃ (presenting : Option Presented) (d : Dword),
      let unsent := !left.isClear && (s.notices.unsent || s.notices.armed)
      exec .ackNotices s = .next (({ s.afterGo r t with
        notices := { s.notices with summary := left, unsent := unsent }
        presenting := presenting } : State).finished .ok [d]) ∧
      d.toNat = left.slots.s0.toNat + 2 * left.slots.s1.toNat + 4 * left.slots.s2.toNat + 8 * left.slots.s3.toNat +
        16 * left.killChange.toNat ∧
      (left.isClear = false → presenting = shown) ∧ (left.isClear = true → presenting = some .answer))

/-- RESET PART stops every slot that is not EMPTY, in OFFLINE with its lines as they stand, its incident ABORTED, its
gates closed, its LIVE entries fenced and both rails free, the mailbox BUSY while anything is owed. The SAQ keeps its
items, none of them marked as this reset's (log 41), and in every sound state in which the reset goes on and the SAQ has
room some slot it waits for has an answer to append. Each incident it closes sets its slot's summary bit, and the first
of them queues a notice where the summary was clear and notices are armed; the end of the reset clears both. The reset
ends, at once or by RESET_PART_END, when no FENCED entry and no Send Queue entry is left: tables, policies, scripts and
notices are at their defaults and the mailbox is DONE. The model's readings: the end lies in the event that answers the
last owed request, so that no sound state meets the last clause here (log 14); the answer to the GO is presented before
a notice that a closing queues (log 34); the incident closes before the gates do (log 18); an EMPTY slot's pending
counts and accumulators are zeroed too (log 28) (R44, R81, R97, R125, R129, R143, R158, R162, R166, R169, R172, R173).
-/
def Obligations.PartResets : Prop :=
  (∀ (s : State) (r : Requester) (t : Tag), s.GoReady r t 0x3F → ∃ v,
    exec .resetPart s = .next v ∧ v.head = none ∧
    v.waitingAnswer = some { requester := r, tag := t, data := none } ∧
    v.railA = { holder := none, waiting := none } ∧ v.railB = { holder := none, waiting := none } ∧
    v.saq = s.saq.map (fun item => { item with ofReset := false }) ∧ v.counters = s.counters ∧ v.time = s.time ∧ v.sequence = s.sequence ∧ v.kill = s.kill ∧
    v.lastServed = s.lastServed ∧ v.health.visitTimer = s.health.visitTimer ∧
    v.health.nextSlot = s.health.nextSlot ∧
    (∀ i, let p := s.slot i
      let q := v.slot i
      (p.seq.state = .empty → q.seq.state = .empty ∧ q.current = p.current ∧ q.traffic = p.traffic ∧
        q.lines = p.lines) ∧
      (p.seq.state ≠ .empty →
        q.seq.state = .offline ∧ q.seq.phase = none ∧ q.seq.level = none ∧ q.seq.held = false ∧
        q.seq.drainTimer = none ∧ q.seq.probationTimer = none ∧ q.exec.inFlight = none ∧
        q.exec.nextTag = p.exec.nextTag ∧ q.seq.attempts = { function := 0, slot := 0, power := 0 } ∧
        q.lines = p.lines ∧
        q.traffic = { (if p.serving then p.gatesClosed else p).traffic with ort := p.fencedOrt } ∧
        q.current = (if p.current.outcome = .pending then
          { p.current with outcome := .aborted, closeTime := some s.time.now } else p.current)) ∧
      q.detect.pendingErrors = 0 ∧ q.detect.pendingStrays = 0 ∧ q.detect.errAcc = 0 ∧ q.detect.strayAcc = 0) ∧
    let owed : Prop := ∃ i, (s.slot i).seq.state ≠ .empty ∧
      ((∃ e ∈ (v.slot i).traffic.ort, e.state = .fenced) ∨ (v.slot i).traffic.sendQueue ≠ [])
    (owed → v.mailbox.state = .busy ∧ (∃ scope, v.resetScope = some scope ∧
        ∀ i, scope.get i = true ↔ (s.slot i).seq.state ≠ .empty) ∧
      v.windowActive = s.windowActive ∧ v.windowStaging = s.windowStaging ∧ v.slotBus = s.slotBus ∧
      v.health.visit = s.health.visit ∧
      (∀ i, (v.slot i).seq.plan = (s.slot i).seq.plan ∧ (v.slot i).deadlines = (s.slot i).deadlines) ∧
      let closes : SlotId → Prop := fun i => (s.slot i).seq.state ≠ .empty ∧ (s.slot i).current.outcome = .pending
      v.notices = { s.notices with summary := v.notices.summary, unsent := v.notices.unsent } ∧
      v.notices.summary.killChange = s.notices.summary.killChange ∧
      (∀ i, v.notices.summary.slots.get i = true ↔ s.notices.summary.slots.get i = true ∨ closes i) ∧
      (v.notices.unsent = true ↔ s.notices.unsent = true ∨
        (s.notices.summary.isClear = true ∧ s.notices.armed = true ∧ ∃ i, closes i)) ∧
      v.presenting = some (s.presenting.getD .answer)) ∧
    (¬owed → v.mailbox.state = .done ∧ v.mailbox.result = .ok ∧ v.mailbox.response = Vector.replicate 16 0 ∧
      v.resetScope = none ∧ v.windowActive = defaultWindows ∧ v.windowStaging = defaultWindows ∧
      v.slotBus = { s0 := 0, s1 := 0, s2 := 0, s3 := 0 } ∧ v.health.visit = 250 ∧ v.notices = Notices.default ∧
      v.presenting = some .answer ∧
      ∀ i, (v.slot i).seq.plan = Plan.default ∧ (v.slot i).deadlines = DeadlineUnit.default ∧
        (v.slot i).detect.monitor = MonitorRecord.default ∧ (v.slot i).script = ScriptStore.default)) ∧
  (∀ (s : State) (scope : PerSlot Bool), s.Sound → s.resetScope = some scope → s.saq.length < 64 →
    ∃ i, scope.get i = true ∧ ∃ t, t.saq.length = s.saq.length + 1 ∧
      (exec (.fencedEntryAnswer i) s = .next t ∨ exec (.containmentQueueAnswer i) s = .next t)) ∧
  (∀ s : State,
    (∀ scope, s.resetScope = some scope → ∃ i, scope.get i = true ∧
      ((∃ e ∈ (s.slot i).traffic.ort, e.state = .fenced) ∨ (s.slot i).traffic.sendQueue ≠ [])) →
    exec .resetPartEnd s = .next s) ∧
  ∀ (s : State) (scope : PerSlot Bool), s.resetScope = some scope →
    (∀ i, scope.get i = true →
      (∀ e ∈ (s.slot i).traffic.ort, e.state ≠ .fenced) ∧ (s.slot i).traffic.sendQueue = []) → ∃ v,
    exec .resetPartEnd s = .next v ∧
    v = { s with
      slots := v.slots, windowStaging := defaultWindows, windowActive := defaultWindows
      slotBus := { s0 := 0, s1 := 0, s2 := 0, s3 := 0 }
      health := { s.health with visit := 250 }
      notices := Notices.default, presenting := v.presenting, resetScope := none
      mailbox := { s.mailbox with state := .done, result := .ok, response := Vector.replicate 16 0 } } ∧
    (s.presenting ≠ some .notice → s.presenting.isSome = true → v.presenting = s.presenting) ∧
    (s.presenting = some .notice → v.presenting = if s.waitingAnswer.isSome then some .answer else none) ∧
    ∀ i, v.slot i = { s.slot i with
      seq := { (s.slot i).seq with plan := Plan.default }
      deadlines := DeadlineUnit.default
      detect := { (s.slot i).detect with monitor := MonitorRecord.default }
      script := ScriptStore.default }
end

