-- ==== Sys2Proof/Laws/Bits.lean ====
section
/-! SUPPORT. What the helpers of Machine/Bits.lean compute, said once: fields as numbers, sums of placed fields, byte
merges, the bytes of a dword, and the list helpers the ORT uses. -/

namespace Sys2Proof.Machine

/-! ### Fields and placed fields -/

theorem field_lt (d : Dword) (lo width : Nat) : field d lo width < 2 ^ width := Nat.mod_lt _ (Nat.two_pow_pos _)

theorem place_toNat (lo width n : Nat) (h : lo + width ≤ 32) : (place lo width n).toNat = n % 2 ^ width * 2 ^ lo := by
  rw [place, BitVec.toNat_ofNat, Nat.mod_eq_of_lt]
  calc n % 2 ^ width * 2 ^ lo < 2 ^ width * 2 ^ lo :=
        Nat.mul_lt_mul_of_pos_right (Nat.mod_lt _ (Nat.two_pow_pos _)) (Nat.two_pow_pos _)
    _ = 2 ^ (lo + width) := by rw [Nat.pow_add, Nat.mul_comm]
    _ ≤ 2 ^ 32 := Nat.pow_le_pow_right (by decide) h

theorem placeBit_toNat (i : Nat) (b : Bool) (h : i < 32) : (placeBit i b).toNat = b.toNat * 2 ^ i := by
  rw [placeBit, place_toNat i 1 _ (by omega)]
  cases b <;> simp

/-- A field placed above everything a dword holds adds its value. -/
theorem or_place_toNat (d : Dword) (lo width n : Nat) (hd : d.toNat < 2 ^ lo) (h : lo + width ≤ 32) :
    (d ||| place lo width n).toNat = d.toNat + n % 2 ^ width * 2 ^ lo := by
  rw [BitVec.toNat_or, place_toNat lo width n h, Nat.or_comm, Nat.mul_comm, Nat.add_comm]
  exact (Nat.two_pow_add_eq_or_of_lt hd _).symm

theorem or_placeBit_toNat (d : Dword) (i : Nat) (b : Bool) (hd : d.toNat < 2 ^ i) (h : i < 32) :
    (d ||| placeBit i b).toNat = d.toNat + b.toNat * 2 ^ i := by
  rw [placeBit, or_place_toNat d i 1 _ hd (by omega)]
  cases b <;> simp

@[simp] theorem dwordOf_toNat (n : Nat) : (dwordOf n).toNat = n % 2 ^ 32 := BitVec.toNat_ofNat ..

/-! ### Bytes -/

/-- Each bit of a merge comes from the new dword where its byte is enabled, and from the old one elsewhere. -/
theorem mergeBytes_bit (e : ByteEnables) (old new : Dword) (b : Nat) (h : b < 32) :
    (mergeBytes e old new).getLsbD b = if e.getLsbD (b / 8) then new.getLsbD b else old.getLsbD b := by
  have key : (enableMask e).getLsbD b = e.getLsbD (b / 8) := by
    revert e b
    decide +kernel
  rw [mergeBytes, BitVec.getLsbD_or, BitVec.getLsbD_and, BitVec.getLsbD_and, BitVec.getLsbD_not, key]
  cases e.getLsbD (b / 8) <;> simp [h]

theorem mergeBytes_none (old new : Dword) : mergeBytes 0 old new = old := by
  apply BitVec.eq_of_getLsbD_eq
  intro i hi
  rw [mergeBytes_bit 0 old new i hi]
  simp

/-- The bytes of four bytes put together. -/
theorem quarter (x y z w : Byte) :
    ((w ++ z ++ y ++ x : BitVec (8 + 8 + 8 + 8)).extractLsb' (8 * 0) 8 = x) ∧
    ((w ++ z ++ y ++ x : BitVec (8 + 8 + 8 + 8)).extractLsb' (8 * 1) 8 = y) ∧
    ((w ++ z ++ y ++ x : BitVec (8 + 8 + 8 + 8)).extractLsb' (8 * 2) 8 = z) ∧
    ((w ++ z ++ y ++ x : BitVec (8 + 8 + 8 + 8)).extractLsb' (8 * 3) 8 = w) := by
  refine ⟨?_, ?_, ?_, ?_⟩ <;>
  · apply BitVec.eq_of_getLsbD_eq
    intro i hi
    simp only [BitVec.getLsbD_extractLsb', BitVec.getLsbD_append]
    interval_cases i <;> simp

/-- Four bytes or more make a dword whose bytes they are. -/
theorem dwordOfBytes_some (data : List Byte) (h : 4 ≤ data.length) :
    ∃ d, dwordOfBytes? data = some d ∧ ∀ b, b < 4 → data[b]? = some (d.extractLsb' (8 * b) 8) := by
  match data, h with
  | b0 :: b1 :: b2 :: b3 :: rest, _ =>
    refine ⟨b3 ++ b2 ++ b1 ++ b0, rfl, fun b hb => ?_⟩
    match b, hb with
    | 0, _ => exact congrArg some (quarter b0 b1 b2 b3).1.symm
    | 1, _ => exact congrArg some (quarter b0 b1 b2 b3).2.1.symm
    | 2, _ => exact congrArg some (quarter b0 b1 b2 b3).2.2.1.symm
    | 3, _ => exact congrArg some (quarter b0 b1 b2 b3).2.2.2.symm

theorem dwordOfBytes_none (data : List Byte) (h : data.length < 4) : dwordOfBytes? data = none := by
  match data, h with
  | [], _ => rfl
  | [_], _ => rfl
  | [_, _], _ => rfl
  | [_, _, _], _ => rfl

/-! ### Numbers -/

theorem satAdd_le (limit n k : Nat) : satAdd limit n k ≤ limit := Nat.min_le_left ..

theorem clampTo_mem (lo hi n : Nat) (h : lo ≤ hi) : lo ≤ clampTo lo hi n ∧ clampTo lo hi n ≤ hi := by
  unfold clampTo
  split
  · omega
  · split <;> omega

theorem clampTo_eq (lo hi n : Nat) (h : lo ≤ hi) : clampTo lo hi n = max lo (min hi n) := by
  unfold clampTo
  split
  · omega
  · split <;> omega

/-- A number already in range is not changed, and only such a number. -/
theorem clampTo_eq_self (lo hi n : Nat) (h : lo ≤ hi) : clampTo lo hi n = n ↔ lo ≤ n ∧ n ≤ hi := by
  rw [clampTo_eq lo hi n h]
  omega

/-! ### Lists -/

variable {α : Type}

/-- The first element with a property is the one behind those without it. -/
theorem updateFirst_split (q : α → Bool) (f : α → α) (older younger : List α) (e : α)
    (h : ∀ x ∈ older, q x = false) (he : q e = true) :
    updateFirst q f (older ++ e :: younger) = older ++ f e :: younger := by
  induction older with
  | nil => simp [updateFirst, he]
  | cons x xs ih =>
    rw [List.cons_append, updateFirst, h x (List.mem_cons_self ..), if_neg Bool.false_ne_true,
      ih fun y hy => h y (List.mem_cons_of_mem _ hy), List.cons_append]

theorem updateFirst_length (q : α → Bool) (f : α → α) (l : List α) : (updateFirst q f l).length = l.length := by
  induction l with
  | nil => rfl
  | cons x xs ih => unfold updateFirst; split <;> simp [ih]

theorem find?_split (q : α → Bool) (older younger : List α) (e : α) (h : ∀ x ∈ older, q x = false) (he : q e = true) :
    (older ++ e :: younger).find? q = some e := by
  rw [List.find?_append, List.find?_eq_none.2 fun x hx => by simp [h x hx], Option.none_or, List.find?_cons_of_pos he]

theorem eraseP_split (q : α → Bool) (older younger : List α) (e : α) (h : ∀ x ∈ older, q x = false) (he : q e = true) :
    (older ++ e :: younger).eraseP q = older ++ younger := by
  rw [List.eraseP_append_right _ fun x hx => by simp [h x hx], List.eraseP_cons_of_pos he]

/-! ### The ORT's entry numbers (R22) -/

/-- With room in the ORT the new entry's number is in range and free, and every lower one is taken. -/
theorem freeNumber_spec (ort : List Entry) (h : ort.length < 32) :
    freeNumber ort < 32 ∧ (∀ e ∈ ort, e.number ≠ freeNumber ort) ∧
      ∀ m, m < freeNumber ort → ∃ e ∈ ort, e.number = m := by
  have hex : ∃ n, n ∈ List.range 32 ∧ (ort.all fun e => e.number != n) = true := by
    by_contra hno
    push Not at hno
    have hsub : List.range 32 ⊆ ort.map Entry.number := by
      intro n hn
      have h1 := hno n hn
      simp only [ne_eq, List.all_eq_true, bne_iff_ne, not_forall, Decidable.not_not] at h1
      obtain ⟨e, he, hen⟩ := h1
      exact List.mem_map.2 ⟨e, he, hen⟩
    have h2 := (List.nodup_range (n := 32)).length_le_of_subset hsub
    simp at h2
    omega
  obtain ⟨n, hn⟩ := Option.isSome_iff_exists.1
    (List.find?_isSome.2 (by simpa using hex) : ((List.range 32).find? fun n => ort.all fun e => e.number != n).isSome = true)
  have hf : freeNumber ort = n := by simp [freeNumber, Config.ortEntries, hn]
  rw [hf]
  refine ⟨by simpa using List.mem_of_find?_eq_some hn, ?_, fun m hm => ?_⟩
  · have h3 := List.find?_some hn
    simpa using h3
  · have h4 : m < 32 := lt_trans hm (by simpa using List.mem_of_find?_eq_some hn)
    obtain ⟨_, k, hk, hkn, hlow⟩ := List.find?_eq_some_iff_getElem.1 hn
    have hmk : m < k := by
      have : n = k := by simpa using hkn.symm
      omega
    have h5 := hlow m hmk
    simp at h5
    exact h5

/-! ### Responses (R170) -/

theorem responseOf_get (l : List Dword) (k : Fin 16) : (responseOf l)[k] = l.getD k.val 0 := by
  simp [responseOf]

end Sys2Proof.Machine
end

