-- ==== Sys2Proof/Laws/Mailbox.lean ====
section
/-! SUPPORT. What a GO does once, for every mailbox command: the event it begins with, the slot it names, the reply it
ends with. -/

namespace Sys2Proof.Machine

/-- The Management Function holds the answer, and presents it unless it presents something (R169). -/
theorem State.giveAnswer_eq (s : State) (r : Requester) (t : Tag) (d : Option Dword) :
    s.giveAnswer r t d =
      { s with
        waitingAnswer := some { requester := r, tag := t, data := d }
        presenting := some (s.presenting.getD .answer) } := by
  unfold State.giveAnswer State.present
  cases hp : s.presenting <;> simp

/-- A GO that is taken leaves the state `afterGo` describes. -/
theorem State.beginGo_eq (s : State) (r : Requester) (t : Tag) : s.beginGo r t = s.afterGo r t := by
  have h : (s.mailbox.command.extractLsb' 0 8 : BitVec 8) = BitVec.ofNat 8 s.mailbox.command.toNat := by
    apply BitVec.eq_of_toNat_eq
    simp [BitVec.extractLsb'_toNat]
  simp [State.beginGo, State.giveAnswer_eq, State.clearHead, State.startGo, Mailbox.startGo, State.afterGo, h]

/-- The GO a ready state holds. -/
theorem State.GoReady.goHead {s : State} {r : Requester} {t : Tag} {code : Nat} (h : s.GoReady r t code) :
    s.goHead = some (r, t) := by
  obtain ⟨⟨g, be, d, hh, hbe⟩, hw, -, -⟩ := h
  simp [State.goHead, hh, hw, isGo, configPlace]
  simpa using hbe

/-- The event of the command whose code the GO carries: the command's effect on the state the GO leaves. -/
theorem State.GoReady.runGo {s : State} {r : Requester} {t : Tag} {code : Nat} (h : s.GoReady r t code)
    (effect : State → State) : s.runGo code effect = effect (s.afterGo r t) := by
  have hc : commandCode s.mailbox.command = code := by
    rw [← h.2.2.2]; simp [commandCode, field]
  rw [State.runGo, h.goHead]
  simp only
  rw [if_pos ⟨h.2.2.1, hc⟩, State.beginGo_eq]

/-- A parameter of a command is the parameter dword as it stood at the GO. -/
@[simp] theorem State.afterGo_param (s : State) (r : Requester) (t : Tag) (k : Fin 8) :
    (s.afterGo r t).param k = s.mailbox.params[k] := rfl

/-- The slots are untouched by a GO. -/
@[simp] theorem State.afterGo_slot (s : State) (r : Requester) (t : Tag) (i : SlotId) :
    (s.afterGo r t).slot i = s.slot i := rfl

/-- The command's effect is the one for the slot it names. -/
theorem State.NamesSlot.withSlot {s : State} {i : SlotId} (h : s.NamesSlot i) (r : Requester) (t : Tag)
    (f : SlotId → Reply) : (s.afterGo r t).withSlot f = f i := by
  have : slotField (s.afterGo r t).mailbox.copyCommand = i.toNat := by
    rw [← h]; simp [slotField, field, State.afterGo]
  rw [State.withSlot, this]
  cases i <;> rfl

/-- A slot field above 3 is refused with BAD_SLOT (R171). -/
theorem State.withSlot_refuses {s : State} (h : 4 ≤ s.mailbox.command.toNat / 256 % 256) (r : Requester) (t : Tag)
    (f : SlotId → Reply) : (s.afterGo r t).withSlot f = (s.afterGo r t).refuse .badSlot := by
  have h2 : slotField (s.afterGo r t).mailbox.copyCommand = s.mailbox.command.toNat / 256 % 256 := by
    simp [slotField, field, State.afterGo]
  rw [State.withSlot, h2]
  obtain ⟨n, hn⟩ : ∃ n, s.mailbox.command.toNat / 256 % 256 = n + 4 := ⟨_, (Nat.sub_add_cancel h).symm⟩
  rw [hn]
  rfl

/-- A command done with a result and data completes as `finished` says. -/
@[simp] theorem State.done_complete (s : State) (code : Result) (data : List Dword) :
    (s.done code data).complete = s.finished code data := rfl

/-- A refused command completes with its result and no data (R171). -/
@[simp] theorem State.refuse_complete (s : State) (code : Result) : (s.refuse code).complete = s.finished code [] := rfl

end Sys2Proof.Machine
end

