-- ==== Sys2Proof/Laws/State.lean ====
section
/-! SUPPORT. One lemma per field per update of the state's records, true by `rfl` or by one case split, tagged `@[simp]`,
so that no later proof unfolds a record update. -/

namespace Sys2Proof

/-- What holds of every slot holds of the four. -/
theorem SlotId.forall_iff {P : SlotId → Prop} : (∀ i, P i) ↔ P .s0 ∧ P .s1 ∧ P .s2 ∧ P .s3 :=
  ⟨fun h => ⟨h _, h _, h _, h _⟩, fun ⟨h0, h1, h2, h3⟩ i => by cases i <;> assumption⟩

/-! ### `PerSlot` -/

namespace PerSlot

variable {α : Type} (v : PerSlot α) (i j : SlotId) (x y : α)

@[simp] theorem get_set_same : (v.set i x).get i = x := by cases i <;> rfl

@[simp] theorem get_set_ne (h : j ≠ i) : (v.set i x).get j = v.get j := by
  cases i <;> cases j <;> first | rfl | exact absurd rfl h

theorem get_set : (v.set i x).get j = if j = i then x else v.get j := by
  cases i <;> cases j <;> rfl

@[simp] theorem set_set : (v.set i x).set i y = v.set i y := by cases i <;> rfl

@[simp] theorem set_get : v.set i (v.get i) = v := by cases i <;> rfl

theorem set_comm (h : j ≠ i) : (v.set i x).set j y = (v.set j y).set i x := by
  cases i <;> cases j <;> first | rfl | exact absurd rfl h

@[simp] theorem get_all : (PerSlot.all x).get i = x := by cases i <;> rfl

@[simp] theorem get_map {β : Type} (f : α → β) : (v.map f).get i = f (v.get i) := by cases i <;> rfl

@[simp] theorem get_modify_same (f : α → α) : (v.modify i f).get i = f (v.get i) := by cases i <;> rfl

@[simp] theorem get_modify_ne (f : α → α) (h : j ≠ i) : (v.modify i f).get j = v.get j := by
  cases i <;> cases j <;> first | rfl | exact absurd rfl h

/-- Two tables with the same value for every slot are equal. -/
theorem ext_get {v w : PerSlot α} (h : ∀ i, v.get i = w.get i) : v = w := by
  have h0 := h .s0
  have h1 := h .s1
  have h2 := h .s2
  have h3 := h .s3
  cases v
  cases w
  simp_all [get]

end PerSlot

namespace Machine

/-! ### One slot of the state -/

variable (s : State) (i j : SlotId) (f g : Slot → Slot)

@[simp] theorem State.slot_modSlot_same : (s.modSlot i f).slot i = f (s.slot i) := by
  simp [State.modSlot, State.slot]

@[simp] theorem State.slot_modSlot_ne (h : j ≠ i) : (s.modSlot i f).slot j = s.slot j := by
  simp [State.modSlot, State.slot, h]

theorem State.slot_modSlot : (s.modSlot i f).slot j = if j = i then f (s.slot i) else s.slot j := by
  by_cases h : j = i
  · subst h
    simp
  · simp [h]

@[simp] theorem State.modSlot_modSlot : (s.modSlot i f).modSlot i g = s.modSlot i fun p => g (f p) := by
  cases i <;> rfl

@[simp] theorem State.slot_withSlots (v : PerSlot Slot) : State.slot { s with slots := v } i = v.get i := rfl

/-- A change of one slot as a replacement of that slot. -/
theorem State.modSlot_eq : s.modSlot i f = { s with slots := s.slots.set i (f (s.slot i)) } := rfl

/-- What `modSlot` does: the named slot is changed and nothing else. -/
theorem State.modSlot_spec {s t : State} {i : SlotId} {f : Slot → Slot} (h : s.modSlot i f = t) :
    t.slot i = f (s.slot i) ∧ (∀ j, j ≠ i → t.slot j = s.slot j) ∧ t = { s with slots := t.slots } := by
  subst h
  exact ⟨by simp, fun j hj => by simp [hj], rfl⟩

@[simp] theorem State.modSlot_pending : (s.modSlot i f).pending = s.pending := rfl
@[simp] theorem State.modSlot_head : (s.modSlot i f).head = s.head := rfl
@[simp] theorem State.modSlot_trunkUp : (s.modSlot i f).trunkUp = s.trunkUp := rfl
@[simp] theorem State.modSlot_windowStaging : (s.modSlot i f).windowStaging = s.windowStaging := rfl
@[simp] theorem State.modSlot_windowActive : (s.modSlot i f).windowActive = s.windowActive := rfl
@[simp] theorem State.modSlot_slotBus : (s.modSlot i f).slotBus = s.slotBus := rfl
@[simp] theorem State.modSlot_saq : (s.modSlot i f).saq = s.saq := rfl
@[simp] theorem State.modSlot_lastServed : (s.modSlot i f).lastServed = s.lastServed := rfl
@[simp] theorem State.modSlot_time : (s.modSlot i f).time = s.time := rfl
@[simp] theorem State.modSlot_health : (s.modSlot i f).health = s.health := rfl
@[simp] theorem State.modSlot_kill : (s.modSlot i f).kill = s.kill := rfl
@[simp] theorem State.modSlot_railA : (s.modSlot i f).railA = s.railA := rfl
@[simp] theorem State.modSlot_railB : (s.modSlot i f).railB = s.railB := rfl
@[simp] theorem State.modSlot_sequence : (s.modSlot i f).sequence = s.sequence := rfl
@[simp] theorem State.modSlot_notices : (s.modSlot i f).notices = s.notices := rfl
@[simp] theorem State.modSlot_waitingAnswer : (s.modSlot i f).waitingAnswer = s.waitingAnswer := rfl
@[simp] theorem State.modSlot_presenting : (s.modSlot i f).presenting = s.presenting := rfl
@[simp] theorem State.modSlot_mailbox : (s.modSlot i f).mailbox = s.mailbox := rfl
@[simp] theorem State.modSlot_resetScope : (s.modSlot i f).resetScope = s.resetScope := rfl
@[simp] theorem State.modSlot_counters : (s.modSlot i f).counters = s.counters := rfl
@[simp] theorem State.modSlot_trunkSent : (s.modSlot i f).trunkSent = s.trunkSent := rfl
@[simp] theorem State.modSlot_freeIndex : (s.modSlot i f).freeIndex = s.freeIndex := rfl

/-! ### Slots after an update of a part-wide field -/

@[simp] theorem State.slot_with_pending (x) : State.slot { s with pending := x } i = s.slot i := rfl
@[simp] theorem State.slot_with_head (x) : State.slot { s with head := x } i = s.slot i := rfl
@[simp] theorem State.slot_with_trunkUp (x) : State.slot { s with trunkUp := x } i = s.slot i := rfl
@[simp] theorem State.slot_with_windowStaging (x) : State.slot { s with windowStaging := x } i = s.slot i := rfl
@[simp] theorem State.slot_with_windowActive (x) : State.slot { s with windowActive := x } i = s.slot i := rfl
@[simp] theorem State.slot_with_slotBus (x) : State.slot { s with slotBus := x } i = s.slot i := rfl
@[simp] theorem State.slot_with_saq (x) : State.slot { s with saq := x } i = s.slot i := rfl
@[simp] theorem State.slot_with_lastServed (x) : State.slot { s with lastServed := x } i = s.slot i := rfl
@[simp] theorem State.slot_with_time (x) : State.slot { s with time := x } i = s.slot i := rfl
@[simp] theorem State.slot_with_health (x) : State.slot { s with health := x } i = s.slot i := rfl
@[simp] theorem State.slot_with_kill (x) : State.slot { s with kill := x } i = s.slot i := rfl
@[simp] theorem State.slot_with_railA (x) : State.slot { s with railA := x } i = s.slot i := rfl
@[simp] theorem State.slot_with_railB (x) : State.slot { s with railB := x } i = s.slot i := rfl
@[simp] theorem State.slot_with_sequence (x) : State.slot { s with sequence := x } i = s.slot i := rfl
@[simp] theorem State.slot_with_notices (x) : State.slot { s with notices := x } i = s.slot i := rfl
@[simp] theorem State.slot_with_waitingAnswer (x) : State.slot { s with waitingAnswer := x } i = s.slot i := rfl
@[simp] theorem State.slot_with_presenting (x) : State.slot { s with presenting := x } i = s.slot i := rfl
@[simp] theorem State.slot_with_mailbox (x) : State.slot { s with mailbox := x } i = s.slot i := rfl
@[simp] theorem State.slot_with_resetScope (x) : State.slot { s with resetScope := x } i = s.slot i := rfl
@[simp] theorem State.slot_with_counters (x) : State.slot { s with counters := x } i = s.slot i := rfl
@[simp] theorem State.slot_with_trunkSent (x) : State.slot { s with trunkSent := x } i = s.slot i := rfl
@[simp] theorem State.slot_with_freeIndex (x) : State.slot { s with freeIndex := x } i = s.slot i := rfl

/-! ### Head, SAQ, trunk -/

@[simp] theorem State.clearHead_pending : (s.clearHead).pending = s.pending := rfl
@[simp] theorem State.clearHead_slots : (s.clearHead).slots = s.slots := rfl
@[simp] theorem State.clearHead_trunkUp : (s.clearHead).trunkUp = s.trunkUp := rfl
@[simp] theorem State.clearHead_windowStaging : (s.clearHead).windowStaging = s.windowStaging := rfl
@[simp] theorem State.clearHead_windowActive : (s.clearHead).windowActive = s.windowActive := rfl
@[simp] theorem State.clearHead_slotBus : (s.clearHead).slotBus = s.slotBus := rfl
@[simp] theorem State.clearHead_saq : (s.clearHead).saq = s.saq := rfl
@[simp] theorem State.clearHead_lastServed : (s.clearHead).lastServed = s.lastServed := rfl
@[simp] theorem State.clearHead_time : (s.clearHead).time = s.time := rfl
@[simp] theorem State.clearHead_health : (s.clearHead).health = s.health := rfl
@[simp] theorem State.clearHead_kill : (s.clearHead).kill = s.kill := rfl
@[simp] theorem State.clearHead_railA : (s.clearHead).railA = s.railA := rfl
@[simp] theorem State.clearHead_railB : (s.clearHead).railB = s.railB := rfl
@[simp] theorem State.clearHead_sequence : (s.clearHead).sequence = s.sequence := rfl
@[simp] theorem State.clearHead_notices : (s.clearHead).notices = s.notices := rfl
@[simp] theorem State.clearHead_waitingAnswer : (s.clearHead).waitingAnswer = s.waitingAnswer := rfl
@[simp] theorem State.clearHead_presenting : (s.clearHead).presenting = s.presenting := rfl
@[simp] theorem State.clearHead_mailbox : (s.clearHead).mailbox = s.mailbox := rfl
@[simp] theorem State.clearHead_resetScope : (s.clearHead).resetScope = s.resetScope := rfl
@[simp] theorem State.clearHead_counters : (s.clearHead).counters = s.counters := rfl
@[simp] theorem State.clearHead_trunkSent : (s.clearHead).trunkSent = s.trunkSent := rfl
@[simp] theorem State.clearHead_freeIndex : (s.clearHead).freeIndex = s.freeIndex := rfl
@[simp] theorem State.slot_clearHead : (s.clearHead).slot i = s.slot i := rfl
@[simp] theorem State.appendSaq_pending (item : SaqItem) : (s.appendSaq item).pending = s.pending := rfl
@[simp] theorem State.appendSaq_slots (item : SaqItem) : (s.appendSaq item).slots = s.slots := rfl
@[simp] theorem State.appendSaq_head (item : SaqItem) : (s.appendSaq item).head = s.head := rfl
@[simp] theorem State.appendSaq_trunkUp (item : SaqItem) : (s.appendSaq item).trunkUp = s.trunkUp := rfl
@[simp] theorem State.appendSaq_windowStaging (item : SaqItem) : (s.appendSaq item).windowStaging = s.windowStaging := rfl
@[simp] theorem State.appendSaq_windowActive (item : SaqItem) : (s.appendSaq item).windowActive = s.windowActive := rfl
@[simp] theorem State.appendSaq_slotBus (item : SaqItem) : (s.appendSaq item).slotBus = s.slotBus := rfl
@[simp] theorem State.appendSaq_lastServed (item : SaqItem) : (s.appendSaq item).lastServed = s.lastServed := rfl
@[simp] theorem State.appendSaq_time (item : SaqItem) : (s.appendSaq item).time = s.time := rfl
@[simp] theorem State.appendSaq_health (item : SaqItem) : (s.appendSaq item).health = s.health := rfl
@[simp] theorem State.appendSaq_kill (item : SaqItem) : (s.appendSaq item).kill = s.kill := rfl
@[simp] theorem State.appendSaq_railA (item : SaqItem) : (s.appendSaq item).railA = s.railA := rfl
@[simp] theorem State.appendSaq_railB (item : SaqItem) : (s.appendSaq item).railB = s.railB := rfl
@[simp] theorem State.appendSaq_sequence (item : SaqItem) : (s.appendSaq item).sequence = s.sequence := rfl
@[simp] theorem State.appendSaq_notices (item : SaqItem) : (s.appendSaq item).notices = s.notices := rfl
@[simp] theorem State.appendSaq_waitingAnswer (item : SaqItem) : (s.appendSaq item).waitingAnswer = s.waitingAnswer := rfl
@[simp] theorem State.appendSaq_presenting (item : SaqItem) : (s.appendSaq item).presenting = s.presenting := rfl
@[simp] theorem State.appendSaq_mailbox (item : SaqItem) : (s.appendSaq item).mailbox = s.mailbox := rfl
@[simp] theorem State.appendSaq_resetScope (item : SaqItem) : (s.appendSaq item).resetScope = s.resetScope := rfl
@[simp] theorem State.appendSaq_counters (item : SaqItem) : (s.appendSaq item).counters = s.counters := rfl
@[simp] theorem State.appendSaq_trunkSent (item : SaqItem) : (s.appendSaq item).trunkSent = s.trunkSent := rfl
@[simp] theorem State.appendSaq_freeIndex (item : SaqItem) : (s.appendSaq item).freeIndex = s.freeIndex := rfl
@[simp] theorem State.slot_appendSaq (item : SaqItem) : (s.appendSaq item).slot i = s.slot i := rfl
@[simp] theorem State.sendTrunk_pending (tx : Transaction) : (s.sendTrunk tx).pending = s.pending := rfl
@[simp] theorem State.sendTrunk_slots (tx : Transaction) : (s.sendTrunk tx).slots = s.slots := rfl
@[simp] theorem State.sendTrunk_head (tx : Transaction) : (s.sendTrunk tx).head = s.head := rfl
@[simp] theorem State.sendTrunk_trunkUp (tx : Transaction) : (s.sendTrunk tx).trunkUp = s.trunkUp := rfl
@[simp] theorem State.sendTrunk_windowStaging (tx : Transaction) : (s.sendTrunk tx).windowStaging = s.windowStaging := rfl
@[simp] theorem State.sendTrunk_windowActive (tx : Transaction) : (s.sendTrunk tx).windowActive = s.windowActive := rfl
@[simp] theorem State.sendTrunk_slotBus (tx : Transaction) : (s.sendTrunk tx).slotBus = s.slotBus := rfl
@[simp] theorem State.sendTrunk_saq (tx : Transaction) : (s.sendTrunk tx).saq = s.saq := rfl
@[simp] theorem State.sendTrunk_lastServed (tx : Transaction) : (s.sendTrunk tx).lastServed = s.lastServed := rfl
@[simp] theorem State.sendTrunk_time (tx : Transaction) : (s.sendTrunk tx).time = s.time := rfl
@[simp] theorem State.sendTrunk_health (tx : Transaction) : (s.sendTrunk tx).health = s.health := rfl
@[simp] theorem State.sendTrunk_kill (tx : Transaction) : (s.sendTrunk tx).kill = s.kill := rfl
@[simp] theorem State.sendTrunk_railA (tx : Transaction) : (s.sendTrunk tx).railA = s.railA := rfl
@[simp] theorem State.sendTrunk_railB (tx : Transaction) : (s.sendTrunk tx).railB = s.railB := rfl
@[simp] theorem State.sendTrunk_sequence (tx : Transaction) : (s.sendTrunk tx).sequence = s.sequence := rfl
@[simp] theorem State.sendTrunk_notices (tx : Transaction) : (s.sendTrunk tx).notices = s.notices := rfl
@[simp] theorem State.sendTrunk_waitingAnswer (tx : Transaction) : (s.sendTrunk tx).waitingAnswer = s.waitingAnswer := rfl
@[simp] theorem State.sendTrunk_presenting (tx : Transaction) : (s.sendTrunk tx).presenting = s.presenting := rfl
@[simp] theorem State.sendTrunk_mailbox (tx : Transaction) : (s.sendTrunk tx).mailbox = s.mailbox := rfl
@[simp] theorem State.sendTrunk_resetScope (tx : Transaction) : (s.sendTrunk tx).resetScope = s.resetScope := rfl
@[simp] theorem State.sendTrunk_counters (tx : Transaction) : (s.sendTrunk tx).counters = s.counters := rfl
@[simp] theorem State.sendTrunk_freeIndex (tx : Transaction) : (s.sendTrunk tx).freeIndex = s.freeIndex := rfl
@[simp] theorem State.slot_sendTrunk (tx : Transaction) : (s.sendTrunk tx).slot i = s.slot i := rfl
@[simp] theorem State.clearHead_head : s.clearHead.head = none := rfl
@[simp] theorem State.appendSaq_saq (item : SaqItem) : (s.appendSaq item).saq = s.saq ++ [item] := rfl
/-- An owed item joins the SAQ with its mark; nothing else changes. -/
theorem State.appendOwed_eq (item : SaqItem) :
    s.appendOwed i item = { s with saq := s.saq ++ [{ item with ofReset := s.resetWaitsFor i }] } := rfl
@[simp] theorem State.slot_appendOwed (j : SlotId) (item : SaqItem) : (s.appendOwed j item).slot i = s.slot i := rfl
@[simp] theorem State.sendTrunk_trunkSent (tx : Transaction) : (s.sendTrunk tx).trunkSent = s.trunkSent ++ [tx] := rfl

/-! ### Presenting and notices: only `presenting` and `notices` change -/

@[simp] theorem State.present_pending : s.present.pending = s.pending := by
  unfold State.present
  split <;> (try split) <;> (try split) <;> rfl
@[simp] theorem State.present_slots : s.present.slots = s.slots := by
  unfold State.present
  split <;> (try split) <;> (try split) <;> rfl
@[simp] theorem State.present_head : s.present.head = s.head := by
  unfold State.present
  split <;> (try split) <;> (try split) <;> rfl
@[simp] theorem State.present_trunkUp : s.present.trunkUp = s.trunkUp := by
  unfold State.present
  split <;> (try split) <;> (try split) <;> rfl
@[simp] theorem State.present_windowStaging : s.present.windowStaging = s.windowStaging := by
  unfold State.present
  split <;> (try split) <;> (try split) <;> rfl
@[simp] theorem State.present_windowActive : s.present.windowActive = s.windowActive := by
  unfold State.present
  split <;> (try split) <;> (try split) <;> rfl
@[simp] theorem State.present_slotBus : s.present.slotBus = s.slotBus := by
  unfold State.present
  split <;> (try split) <;> (try split) <;> rfl
@[simp] theorem State.present_saq : s.present.saq = s.saq := by
  unfold State.present
  split <;> (try split) <;> (try split) <;> rfl
@[simp] theorem State.present_lastServed : s.present.lastServed = s.lastServed := by
  unfold State.present
  split <;> (try split) <;> (try split) <;> rfl
@[simp] theorem State.present_time : s.present.time = s.time := by
  unfold State.present
  split <;> (try split) <;> (try split) <;> rfl
@[simp] theorem State.present_health : s.present.health = s.health := by
  unfold State.present
  split <;> (try split) <;> (try split) <;> rfl
@[simp] theorem State.present_kill : s.present.kill = s.kill := by
  unfold State.present
  split <;> (try split) <;> (try split) <;> rfl
@[simp] theorem State.present_railA : s.present.railA = s.railA := by
  unfold State.present
  split <;> (try split) <;> (try split) <;> rfl
@[simp] theorem State.present_railB : s.present.railB = s.railB := by
  unfold State.present
  split <;> (try split) <;> (try split) <;> rfl
@[simp] theorem State.present_sequence : s.present.sequence = s.sequence := by
  unfold State.present
  split <;> (try split) <;> (try split) <;> rfl
@[simp] theorem State.present_notices : s.present.notices = s.notices := by
  unfold State.present
  split <;> (try split) <;> (try split) <;> rfl
@[simp] theorem State.present_waitingAnswer : s.present.waitingAnswer = s.waitingAnswer := by
  unfold State.present
  split <;> (try split) <;> (try split) <;> rfl
@[simp] theorem State.present_mailbox : s.present.mailbox = s.mailbox := by
  unfold State.present
  split <;> (try split) <;> (try split) <;> rfl
@[simp] theorem State.present_resetScope : s.present.resetScope = s.resetScope := by
  unfold State.present
  split <;> (try split) <;> (try split) <;> rfl
@[simp] theorem State.present_counters : s.present.counters = s.counters := by
  unfold State.present
  split <;> (try split) <;> (try split) <;> rfl
@[simp] theorem State.present_trunkSent : s.present.trunkSent = s.trunkSent := by
  unfold State.present
  split <;> (try split) <;> (try split) <;> rfl
@[simp] theorem State.present_freeIndex : s.present.freeIndex = s.freeIndex := by
  unfold State.present
  split <;> (try split) <;> (try split) <;> rfl
@[simp] theorem State.slot_present : s.present.slot i = s.slot i := by simp [State.slot]

@[simp] theorem State.queueNotice_pending : s.queueNotice.pending = s.pending := by
  unfold State.queueNotice
  split <;> simp
@[simp] theorem State.queueNotice_slots : s.queueNotice.slots = s.slots := by
  unfold State.queueNotice
  split <;> simp
@[simp] theorem State.queueNotice_head : s.queueNotice.head = s.head := by
  unfold State.queueNotice
  split <;> simp
@[simp] theorem State.queueNotice_trunkUp : s.queueNotice.trunkUp = s.trunkUp := by
  unfold State.queueNotice
  split <;> simp
@[simp] theorem State.queueNotice_windowStaging : s.queueNotice.windowStaging = s.windowStaging := by
  unfold State.queueNotice
  split <;> simp
@[simp] theorem State.queueNotice_windowActive : s.queueNotice.windowActive = s.windowActive := by
  unfold State.queueNotice
  split <;> simp
@[simp] theorem State.queueNotice_slotBus : s.queueNotice.slotBus = s.slotBus := by
  unfold State.queueNotice
  split <;> simp
@[simp] theorem State.queueNotice_saq : s.queueNotice.saq = s.saq := by
  unfold State.queueNotice
  split <;> simp
@[simp] theorem State.queueNotice_lastServed : s.queueNotice.lastServed = s.lastServed := by
  unfold State.queueNotice
  split <;> simp
@[simp] theorem State.queueNotice_time : s.queueNotice.time = s.time := by
  unfold State.queueNotice
  split <;> simp
@[simp] theorem State.queueNotice_health : s.queueNotice.health = s.health := by
  unfold State.queueNotice
  split <;> simp
@[simp] theorem State.queueNotice_kill : s.queueNotice.kill = s.kill := by
  unfold State.queueNotice
  split <;> simp
@[simp] theorem State.queueNotice_railA : s.queueNotice.railA = s.railA := by
  unfold State.queueNotice
  split <;> simp
@[simp] theorem State.queueNotice_railB : s.queueNotice.railB = s.railB := by
  unfold State.queueNotice
  split <;> simp
@[simp] theorem State.queueNotice_sequence : s.queueNotice.sequence = s.sequence := by
  unfold State.queueNotice
  split <;> simp
@[simp] theorem State.queueNotice_waitingAnswer : s.queueNotice.waitingAnswer = s.waitingAnswer := by
  unfold State.queueNotice
  split <;> simp
@[simp] theorem State.queueNotice_mailbox : s.queueNotice.mailbox = s.mailbox := by
  unfold State.queueNotice
  split <;> simp
@[simp] theorem State.queueNotice_resetScope : s.queueNotice.resetScope = s.resetScope := by
  unfold State.queueNotice
  split <;> simp
@[simp] theorem State.queueNotice_counters : s.queueNotice.counters = s.counters := by
  unfold State.queueNotice
  split <;> simp
@[simp] theorem State.queueNotice_trunkSent : s.queueNotice.trunkSent = s.trunkSent := by
  unfold State.queueNotice
  split <;> simp
@[simp] theorem State.queueNotice_freeIndex : s.queueNotice.freeIndex = s.freeIndex := by
  unfold State.queueNotice
  split <;> simp
@[simp] theorem State.slot_queueNotice : s.queueNotice.slot i = s.slot i := by simp [State.slot]

@[simp] theorem State.withdrawNotice_pending : s.withdrawNotice.pending = s.pending := by simp [State.withdrawNotice]
@[simp] theorem State.withdrawNotice_slots : s.withdrawNotice.slots = s.slots := by simp [State.withdrawNotice]
@[simp] theorem State.withdrawNotice_head : s.withdrawNotice.head = s.head := by simp [State.withdrawNotice]
@[simp] theorem State.withdrawNotice_trunkUp : s.withdrawNotice.trunkUp = s.trunkUp := by simp [State.withdrawNotice]
@[simp] theorem State.withdrawNotice_windowStaging : s.withdrawNotice.windowStaging = s.windowStaging := by simp [State.withdrawNotice]
@[simp] theorem State.withdrawNotice_windowActive : s.withdrawNotice.windowActive = s.windowActive := by simp [State.withdrawNotice]
@[simp] theorem State.withdrawNotice_slotBus : s.withdrawNotice.slotBus = s.slotBus := by simp [State.withdrawNotice]
@[simp] theorem State.withdrawNotice_saq : s.withdrawNotice.saq = s.saq := by simp [State.withdrawNotice]
@[simp] theorem State.withdrawNotice_lastServed : s.withdrawNotice.lastServed = s.lastServed := by simp [State.withdrawNotice]
@[simp] theorem State.withdrawNotice_time : s.withdrawNotice.time = s.time := by simp [State.withdrawNotice]
@[simp] theorem State.withdrawNotice_health : s.withdrawNotice.health = s.health := by simp [State.withdrawNotice]
@[simp] theorem State.withdrawNotice_kill : s.withdrawNotice.kill = s.kill := by simp [State.withdrawNotice]
@[simp] theorem State.withdrawNotice_railA : s.withdrawNotice.railA = s.railA := by simp [State.withdrawNotice]
@[simp] theorem State.withdrawNotice_railB : s.withdrawNotice.railB = s.railB := by simp [State.withdrawNotice]
@[simp] theorem State.withdrawNotice_sequence : s.withdrawNotice.sequence = s.sequence := by simp [State.withdrawNotice]
@[simp] theorem State.withdrawNotice_waitingAnswer : s.withdrawNotice.waitingAnswer = s.waitingAnswer := by simp [State.withdrawNotice]
@[simp] theorem State.withdrawNotice_mailbox : s.withdrawNotice.mailbox = s.mailbox := by simp [State.withdrawNotice]
@[simp] theorem State.withdrawNotice_resetScope : s.withdrawNotice.resetScope = s.resetScope := by simp [State.withdrawNotice]
@[simp] theorem State.withdrawNotice_counters : s.withdrawNotice.counters = s.counters := by simp [State.withdrawNotice]
@[simp] theorem State.withdrawNotice_trunkSent : s.withdrawNotice.trunkSent = s.trunkSent := by simp [State.withdrawNotice]
@[simp] theorem State.withdrawNotice_freeIndex : s.withdrawNotice.freeIndex = s.freeIndex := by simp [State.withdrawNotice]
@[simp] theorem State.slot_withdrawNotice : s.withdrawNotice.slot i = s.slot i := by simp [State.slot]

@[simp] theorem State.dropPresented_pending : s.dropPresented.pending = s.pending := rfl
@[simp] theorem State.dropPresented_slots : s.dropPresented.slots = s.slots := rfl
@[simp] theorem State.dropPresented_head : s.dropPresented.head = s.head := rfl
@[simp] theorem State.dropPresented_trunkUp : s.dropPresented.trunkUp = s.trunkUp := rfl
@[simp] theorem State.dropPresented_windowStaging : s.dropPresented.windowStaging = s.windowStaging := rfl
@[simp] theorem State.dropPresented_windowActive : s.dropPresented.windowActive = s.windowActive := rfl
@[simp] theorem State.dropPresented_slotBus : s.dropPresented.slotBus = s.slotBus := rfl
@[simp] theorem State.dropPresented_saq : s.dropPresented.saq = s.saq := rfl
@[simp] theorem State.dropPresented_lastServed : s.dropPresented.lastServed = s.lastServed := rfl
@[simp] theorem State.dropPresented_time : s.dropPresented.time = s.time := rfl
@[simp] theorem State.dropPresented_health : s.dropPresented.health = s.health := rfl
@[simp] theorem State.dropPresented_kill : s.dropPresented.kill = s.kill := rfl
@[simp] theorem State.dropPresented_railA : s.dropPresented.railA = s.railA := rfl
@[simp] theorem State.dropPresented_railB : s.dropPresented.railB = s.railB := rfl
@[simp] theorem State.dropPresented_sequence : s.dropPresented.sequence = s.sequence := rfl
@[simp] theorem State.dropPresented_notices : s.dropPresented.notices = { s.notices with unsent := false } := rfl
@[simp] theorem State.dropPresented_waitingAnswer : s.dropPresented.waitingAnswer = none := rfl
@[simp] theorem State.dropPresented_presenting : s.dropPresented.presenting = none := rfl
@[simp] theorem State.dropPresented_mailbox : s.dropPresented.mailbox = s.mailbox := rfl
@[simp] theorem State.dropPresented_resetScope : s.dropPresented.resetScope = s.resetScope := rfl
@[simp] theorem State.dropPresented_counters : s.dropPresented.counters = s.counters := rfl
@[simp] theorem State.dropPresented_trunkSent : s.dropPresented.trunkSent = s.trunkSent := rfl
@[simp] theorem State.dropPresented_freeIndex : s.dropPresented.freeIndex = s.freeIndex := rfl
@[simp] theorem State.slot_dropPresented : s.dropPresented.slot i = s.slot i := rfl

variable (k : Summary → Summary)

@[simp] theorem State.raiseSummary_pending : (s.raiseSummary k).pending = s.pending := by
  simp only [State.raiseSummary]
  split <;> simp
@[simp] theorem State.raiseSummary_slots : (s.raiseSummary k).slots = s.slots := by
  simp only [State.raiseSummary]
  split <;> simp
@[simp] theorem State.raiseSummary_head : (s.raiseSummary k).head = s.head := by
  simp only [State.raiseSummary]
  split <;> simp
@[simp] theorem State.raiseSummary_trunkUp : (s.raiseSummary k).trunkUp = s.trunkUp := by
  simp only [State.raiseSummary]
  split <;> simp
@[simp] theorem State.raiseSummary_windowStaging : (s.raiseSummary k).windowStaging = s.windowStaging := by
  simp only [State.raiseSummary]
  split <;> simp
@[simp] theorem State.raiseSummary_windowActive : (s.raiseSummary k).windowActive = s.windowActive := by
  simp only [State.raiseSummary]
  split <;> simp
@[simp] theorem State.raiseSummary_slotBus : (s.raiseSummary k).slotBus = s.slotBus := by
  simp only [State.raiseSummary]
  split <;> simp
@[simp] theorem State.raiseSummary_saq : (s.raiseSummary k).saq = s.saq := by
  simp only [State.raiseSummary]
  split <;> simp
@[simp] theorem State.raiseSummary_lastServed : (s.raiseSummary k).lastServed = s.lastServed := by
  simp only [State.raiseSummary]
  split <;> simp
@[simp] theorem State.raiseSummary_time : (s.raiseSummary k).time = s.time := by
  simp only [State.raiseSummary]
  split <;> simp
@[simp] theorem State.raiseSummary_health : (s.raiseSummary k).health = s.health := by
  simp only [State.raiseSummary]
  split <;> simp
@[simp] theorem State.raiseSummary_kill : (s.raiseSummary k).kill = s.kill := by
  simp only [State.raiseSummary]
  split <;> simp
@[simp] theorem State.raiseSummary_railA : (s.raiseSummary k).railA = s.railA := by
  simp only [State.raiseSummary]
  split <;> simp
@[simp] theorem State.raiseSummary_railB : (s.raiseSummary k).railB = s.railB := by
  simp only [State.raiseSummary]
  split <;> simp
@[simp] theorem State.raiseSummary_sequence : (s.raiseSummary k).sequence = s.sequence := by
  simp only [State.raiseSummary]
  split <;> simp
@[simp] theorem State.raiseSummary_waitingAnswer : (s.raiseSummary k).waitingAnswer = s.waitingAnswer := by
  simp only [State.raiseSummary]
  split <;> simp
@[simp] theorem State.raiseSummary_mailbox : (s.raiseSummary k).mailbox = s.mailbox := by
  simp only [State.raiseSummary]
  split <;> simp
@[simp] theorem State.raiseSummary_resetScope : (s.raiseSummary k).resetScope = s.resetScope := by
  simp only [State.raiseSummary]
  split <;> simp
@[simp] theorem State.raiseSummary_counters : (s.raiseSummary k).counters = s.counters := by
  simp only [State.raiseSummary]
  split <;> simp
@[simp] theorem State.raiseSummary_trunkSent : (s.raiseSummary k).trunkSent = s.trunkSent := by
  simp only [State.raiseSummary]
  split <;> simp
@[simp] theorem State.raiseSummary_freeIndex : (s.raiseSummary k).freeIndex = s.freeIndex := by
  simp only [State.raiseSummary]
  split <;> simp
@[simp] theorem State.slot_raiseSummary : (s.raiseSummary k).slot i = s.slot i := by simp [State.slot]

@[simp] theorem State.raiseSlot_pending : (s.raiseSlot i).pending = s.pending := by simp [State.raiseSlot]
@[simp] theorem State.raiseSlot_slots : (s.raiseSlot i).slots = s.slots := by simp [State.raiseSlot]
@[simp] theorem State.raiseSlot_head : (s.raiseSlot i).head = s.head := by simp [State.raiseSlot]
@[simp] theorem State.raiseSlot_trunkUp : (s.raiseSlot i).trunkUp = s.trunkUp := by simp [State.raiseSlot]
@[simp] theorem State.raiseSlot_windowStaging : (s.raiseSlot i).windowStaging = s.windowStaging := by simp [State.raiseSlot]
@[simp] theorem State.raiseSlot_windowActive : (s.raiseSlot i).windowActive = s.windowActive := by simp [State.raiseSlot]
@[simp] theorem State.raiseSlot_slotBus : (s.raiseSlot i).slotBus = s.slotBus := by simp [State.raiseSlot]
@[simp] theorem State.raiseSlot_saq : (s.raiseSlot i).saq = s.saq := by simp [State.raiseSlot]
@[simp] theorem State.raiseSlot_lastServed : (s.raiseSlot i).lastServed = s.lastServed := by simp [State.raiseSlot]
@[simp] theorem State.raiseSlot_time : (s.raiseSlot i).time = s.time := by simp [State.raiseSlot]
@[simp] theorem State.raiseSlot_health : (s.raiseSlot i).health = s.health := by simp [State.raiseSlot]
@[simp] theorem State.raiseSlot_kill : (s.raiseSlot i).kill = s.kill := by simp [State.raiseSlot]
@[simp] theorem State.raiseSlot_railA : (s.raiseSlot i).railA = s.railA := by simp [State.raiseSlot]
@[simp] theorem State.raiseSlot_railB : (s.raiseSlot i).railB = s.railB := by simp [State.raiseSlot]
@[simp] theorem State.raiseSlot_sequence : (s.raiseSlot i).sequence = s.sequence := by simp [State.raiseSlot]
@[simp] theorem State.raiseSlot_waitingAnswer : (s.raiseSlot i).waitingAnswer = s.waitingAnswer := by simp [State.raiseSlot]
@[simp] theorem State.raiseSlot_mailbox : (s.raiseSlot i).mailbox = s.mailbox := by simp [State.raiseSlot]
@[simp] theorem State.raiseSlot_resetScope : (s.raiseSlot i).resetScope = s.resetScope := by simp [State.raiseSlot]
@[simp] theorem State.raiseSlot_counters : (s.raiseSlot i).counters = s.counters := by simp [State.raiseSlot]
@[simp] theorem State.raiseSlot_trunkSent : (s.raiseSlot i).trunkSent = s.trunkSent := by simp [State.raiseSlot]
@[simp] theorem State.raiseSlot_freeIndex : (s.raiseSlot i).freeIndex = s.freeIndex := by simp [State.raiseSlot]
@[simp] theorem State.slot_raiseSlot : (s.raiseSlot j).slot i = s.slot i := by simp [State.slot]

@[simp] theorem State.raiseKill_pending : s.raiseKill.pending = s.pending := by simp [State.raiseKill]
@[simp] theorem State.raiseKill_slots : s.raiseKill.slots = s.slots := by simp [State.raiseKill]
@[simp] theorem State.raiseKill_head : s.raiseKill.head = s.head := by simp [State.raiseKill]
@[simp] theorem State.raiseKill_trunkUp : s.raiseKill.trunkUp = s.trunkUp := by simp [State.raiseKill]
@[simp] theorem State.raiseKill_windowStaging : s.raiseKill.windowStaging = s.windowStaging := by simp [State.raiseKill]
@[simp] theorem State.raiseKill_windowActive : s.raiseKill.windowActive = s.windowActive := by simp [State.raiseKill]
@[simp] theorem State.raiseKill_slotBus : s.raiseKill.slotBus = s.slotBus := by simp [State.raiseKill]
@[simp] theorem State.raiseKill_saq : s.raiseKill.saq = s.saq := by simp [State.raiseKill]
@[simp] theorem State.raiseKill_lastServed : s.raiseKill.lastServed = s.lastServed := by simp [State.raiseKill]
@[simp] theorem State.raiseKill_time : s.raiseKill.time = s.time := by simp [State.raiseKill]
@[simp] theorem State.raiseKill_health : s.raiseKill.health = s.health := by simp [State.raiseKill]
@[simp] theorem State.raiseKill_kill : s.raiseKill.kill = s.kill := by simp [State.raiseKill]
@[simp] theorem State.raiseKill_railA : s.raiseKill.railA = s.railA := by simp [State.raiseKill]
@[simp] theorem State.raiseKill_railB : s.raiseKill.railB = s.railB := by simp [State.raiseKill]
@[simp] theorem State.raiseKill_sequence : s.raiseKill.sequence = s.sequence := by simp [State.raiseKill]
@[simp] theorem State.raiseKill_waitingAnswer : s.raiseKill.waitingAnswer = s.waitingAnswer := by simp [State.raiseKill]
@[simp] theorem State.raiseKill_mailbox : s.raiseKill.mailbox = s.mailbox := by simp [State.raiseKill]
@[simp] theorem State.raiseKill_resetScope : s.raiseKill.resetScope = s.resetScope := by simp [State.raiseKill]
@[simp] theorem State.raiseKill_counters : s.raiseKill.counters = s.counters := by simp [State.raiseKill]
@[simp] theorem State.raiseKill_trunkSent : s.raiseKill.trunkSent = s.trunkSent := by simp [State.raiseKill]
@[simp] theorem State.raiseKill_freeIndex : s.raiseKill.freeIndex = s.freeIndex := by simp [State.raiseKill]
@[simp] theorem State.slot_raiseKill : s.raiseKill.slot i = s.slot i := by simp [State.slot]

/-! ### Incidents: only the slot, `sequence`, `notices` and `presenting` change -/

variable (kd : IncidentKind) (fc : FirstCause) (fu : CauseSet) (ts : TripState) (vw : TripView) (oc : IncidentOutcome)

@[simp] theorem State.openIncident_pending : (s.openIncident i kd fc fu ts vw).pending = s.pending := by simp [State.openIncident]
@[simp] theorem State.openIncident_head : (s.openIncident i kd fc fu ts vw).head = s.head := by simp [State.openIncident]
@[simp] theorem State.openIncident_trunkUp : (s.openIncident i kd fc fu ts vw).trunkUp = s.trunkUp := by simp [State.openIncident]
@[simp] theorem State.openIncident_windowStaging : (s.openIncident i kd fc fu ts vw).windowStaging = s.windowStaging := by simp [State.openIncident]
@[simp] theorem State.openIncident_windowActive : (s.openIncident i kd fc fu ts vw).windowActive = s.windowActive := by simp [State.openIncident]
@[simp] theorem State.openIncident_slotBus : (s.openIncident i kd fc fu ts vw).slotBus = s.slotBus := by simp [State.openIncident]
@[simp] theorem State.openIncident_saq : (s.openIncident i kd fc fu ts vw).saq = s.saq := by simp [State.openIncident]
@[simp] theorem State.openIncident_lastServed : (s.openIncident i kd fc fu ts vw).lastServed = s.lastServed := by simp [State.openIncident]
@[simp] theorem State.openIncident_time : (s.openIncident i kd fc fu ts vw).time = s.time := by simp [State.openIncident]
@[simp] theorem State.openIncident_health : (s.openIncident i kd fc fu ts vw).health = s.health := by simp [State.openIncident]
@[simp] theorem State.openIncident_kill : (s.openIncident i kd fc fu ts vw).kill = s.kill := by simp [State.openIncident]
@[simp] theorem State.openIncident_railA : (s.openIncident i kd fc fu ts vw).railA = s.railA := by simp [State.openIncident]
@[simp] theorem State.openIncident_railB : (s.openIncident i kd fc fu ts vw).railB = s.railB := by simp [State.openIncident]
@[simp] theorem State.openIncident_waitingAnswer : (s.openIncident i kd fc fu ts vw).waitingAnswer = s.waitingAnswer := by simp [State.openIncident]
@[simp] theorem State.openIncident_mailbox : (s.openIncident i kd fc fu ts vw).mailbox = s.mailbox := by simp [State.openIncident]
@[simp] theorem State.openIncident_resetScope : (s.openIncident i kd fc fu ts vw).resetScope = s.resetScope := by simp [State.openIncident]
@[simp] theorem State.openIncident_counters : (s.openIncident i kd fc fu ts vw).counters = s.counters := by simp [State.openIncident]
@[simp] theorem State.openIncident_trunkSent : (s.openIncident i kd fc fu ts vw).trunkSent = s.trunkSent := by simp [State.openIncident]
@[simp] theorem State.openIncident_freeIndex : (s.openIncident i kd fc fu ts vw).freeIndex = s.freeIndex := by simp [State.openIncident]
@[simp] theorem State.openIncident_sequence : (s.openIncident i kd fc fu ts vw).sequence = s.sequence + 1 := by
  simp [State.openIncident]

@[simp] theorem State.closeIncident_pending : (s.closeIncident i oc).pending = s.pending := by
  simp only [State.closeIncident]
  split <;> simp
@[simp] theorem State.closeIncident_head : (s.closeIncident i oc).head = s.head := by
  simp only [State.closeIncident]
  split <;> simp
@[simp] theorem State.closeIncident_trunkUp : (s.closeIncident i oc).trunkUp = s.trunkUp := by
  simp only [State.closeIncident]
  split <;> simp
@[simp] theorem State.closeIncident_windowStaging : (s.closeIncident i oc).windowStaging = s.windowStaging := by
  simp only [State.closeIncident]
  split <;> simp
@[simp] theorem State.closeIncident_windowActive : (s.closeIncident i oc).windowActive = s.windowActive := by
  simp only [State.closeIncident]
  split <;> simp
@[simp] theorem State.closeIncident_slotBus : (s.closeIncident i oc).slotBus = s.slotBus := by
  simp only [State.closeIncident]
  split <;> simp
@[simp] theorem State.closeIncident_saq : (s.closeIncident i oc).saq = s.saq := by
  simp only [State.closeIncident]
  split <;> simp
@[simp] theorem State.closeIncident_lastServed : (s.closeIncident i oc).lastServed = s.lastServed := by
  simp only [State.closeIncident]
  split <;> simp
@[simp] theorem State.closeIncident_time : (s.closeIncident i oc).time = s.time := by
  simp only [State.closeIncident]
  split <;> simp
@[simp] theorem State.closeIncident_health : (s.closeIncident i oc).health = s.health := by
  simp only [State.closeIncident]
  split <;> simp
@[simp] theorem State.closeIncident_kill : (s.closeIncident i oc).kill = s.kill := by
  simp only [State.closeIncident]
  split <;> simp
@[simp] theorem State.closeIncident_railA : (s.closeIncident i oc).railA = s.railA := by
  simp only [State.closeIncident]
  split <;> simp
@[simp] theorem State.closeIncident_railB : (s.closeIncident i oc).railB = s.railB := by
  simp only [State.closeIncident]
  split <;> simp
@[simp] theorem State.closeIncident_sequence : (s.closeIncident i oc).sequence = s.sequence := by
  simp only [State.closeIncident]
  split <;> simp
@[simp] theorem State.closeIncident_waitingAnswer : (s.closeIncident i oc).waitingAnswer = s.waitingAnswer := by
  simp only [State.closeIncident]
  split <;> simp
@[simp] theorem State.closeIncident_mailbox : (s.closeIncident i oc).mailbox = s.mailbox := by
  simp only [State.closeIncident]
  split <;> simp
@[simp] theorem State.closeIncident_resetScope : (s.closeIncident i oc).resetScope = s.resetScope := by
  simp only [State.closeIncident]
  split <;> simp
@[simp] theorem State.closeIncident_counters : (s.closeIncident i oc).counters = s.counters := by
  simp only [State.closeIncident]
  split <;> simp
@[simp] theorem State.closeIncident_trunkSent : (s.closeIncident i oc).trunkSent = s.trunkSent := by
  simp only [State.closeIncident]
  split <;> simp
@[simp] theorem State.closeIncident_freeIndex : (s.closeIncident i oc).freeIndex = s.freeIndex := by
  simp only [State.closeIncident]
  split <;> simp

@[simp] theorem State.slot_openIncident_ne (h : j ≠ i) : (s.openIncident i kd fc fu ts vw).slot j = s.slot j := by
  simp [State.openIncident, h]

@[simp] theorem State.slot_closeIncident_ne (h : j ≠ i) : (s.closeIncident i oc).slot j = s.slot j := by
  simp only [State.closeIncident]
  split <;> simp [h]

/-! ### Rails -/

variable (r : RailId) (v : Rail)

@[simp] theorem State.setRail_pending : (s.setRail r v).pending = s.pending := by cases r <;> rfl
@[simp] theorem State.setRail_slots : (s.setRail r v).slots = s.slots := by cases r <;> rfl
@[simp] theorem State.setRail_head : (s.setRail r v).head = s.head := by cases r <;> rfl
@[simp] theorem State.setRail_trunkUp : (s.setRail r v).trunkUp = s.trunkUp := by cases r <;> rfl
@[simp] theorem State.setRail_windowStaging : (s.setRail r v).windowStaging = s.windowStaging := by cases r <;> rfl
@[simp] theorem State.setRail_windowActive : (s.setRail r v).windowActive = s.windowActive := by cases r <;> rfl
@[simp] theorem State.setRail_slotBus : (s.setRail r v).slotBus = s.slotBus := by cases r <;> rfl
@[simp] theorem State.setRail_saq : (s.setRail r v).saq = s.saq := by cases r <;> rfl
@[simp] theorem State.setRail_lastServed : (s.setRail r v).lastServed = s.lastServed := by cases r <;> rfl
@[simp] theorem State.setRail_time : (s.setRail r v).time = s.time := by cases r <;> rfl
@[simp] theorem State.setRail_health : (s.setRail r v).health = s.health := by cases r <;> rfl
@[simp] theorem State.setRail_kill : (s.setRail r v).kill = s.kill := by cases r <;> rfl
@[simp] theorem State.setRail_sequence : (s.setRail r v).sequence = s.sequence := by cases r <;> rfl
@[simp] theorem State.setRail_notices : (s.setRail r v).notices = s.notices := by cases r <;> rfl
@[simp] theorem State.setRail_waitingAnswer : (s.setRail r v).waitingAnswer = s.waitingAnswer := by cases r <;> rfl
@[simp] theorem State.setRail_presenting : (s.setRail r v).presenting = s.presenting := by cases r <;> rfl
@[simp] theorem State.setRail_mailbox : (s.setRail r v).mailbox = s.mailbox := by cases r <;> rfl
@[simp] theorem State.setRail_resetScope : (s.setRail r v).resetScope = s.resetScope := by cases r <;> rfl
@[simp] theorem State.setRail_counters : (s.setRail r v).counters = s.counters := by cases r <;> rfl
@[simp] theorem State.setRail_trunkSent : (s.setRail r v).trunkSent = s.trunkSent := by cases r <;> rfl
@[simp] theorem State.setRail_freeIndex : (s.setRail r v).freeIndex = s.freeIndex := by cases r <;> rfl
@[simp] theorem State.slot_setRail : (s.setRail r v).slot i = s.slot i := by cases r <;> rfl
@[simp] theorem State.rail_setRail_same : (s.setRail r v).rail r = v := by cases r <;> rfl
@[simp] theorem State.rail_setRail_ne (q : RailId) (h : q ≠ r) : (s.setRail r v).rail q = s.rail q := by
  cases r <;> cases q <;> first | rfl | exact absurd rfl h
@[simp] theorem State.rail_modSlot : (s.modSlot i f).rail r = s.rail r := by cases r <;> rfl

end Machine

end Sys2Proof
end

