-- ==== Sys2Proof/Laws/Views.lean ====
section
/-! SUPPORT. Each shared operation of the sequencer as the view of Safety.lean that says, in one record, everything it
does. -/

namespace Sys2Proof.Machine

/-! ### Lists and slots -/

/-- Replacing a slot twice is replacing it once. -/
@[simp] theorem State.withSlotAt_withSlotAt (s : State) (i : SlotId) (p q : Slot) :
    (s.withSlotAt i p).withSlotAt i q = s.withSlotAt i q := by
  simp [State.withSlotAt]

@[simp] theorem State.withSlotAt_slot (s : State) (i : SlotId) (p : Slot) : (s.withSlotAt i p).slot i = p := by
  simp [State.withSlotAt, State.slot]

/-- A change of one slot is its replacement. -/
theorem State.modSlot_withSlotAt (s : State) (i : SlotId) (f : Slot → Slot) : s.modSlot i f = s.withSlotAt i (f (s.slot i)) := rfl

theorem Slot.fenceAll_eq (p : Slot) : p.fenceAll = { p with traffic := { p.traffic with ort := p.fencedOrt } } := by
  have : p.traffic.ort.map Entry.fence = p.fencedOrt := by
    apply List.map_congr_left
    intro e _
    simp [Entry.fence, Entry.isLive]
  simp [Slot.fenceAll, this]

theorem Slot.tombstoneClear_eq (p : Slot) :
    p.tombstoneClear = { p with traffic := { p.traffic with ort := p.clearedOrt } } := rfl

theorem Slot.closeGates_eq (p : Slot) : p.closeGates = p.gatesClosed := by
  unfold Slot.closeGates Slot.gatesClosed Slot.closeStage
  rcases hs : p.traffic.stage with _ | tx
  · simp [Slot.dropPosted, Slot.countDroppedWrites, satAdd, Config.counterLimit, hs]
  · cases ha : isAnswer tx
    · by_cases h : p.current.outcome = .pending <;>
        simp [Slot.countDroppedCardRequests, Slot.notePending, h, Slot.dropPosted, Slot.countDroppedWrites, satAdd,
          Config.counterLimit, Config.incidentLimit, ha]
    · simp [Slot.dropPosted, Slot.countDroppedWrites, satAdd, Config.counterLimit, hs, ha]

theorem Slot.restoreDefaults_eq (p : Slot) : p.restoreDefaults = p.tablesRestored := rfl

/-- The condition for the end of a RESET PART, as a proposition. -/
theorem State.resetOwesNothing_iff (s : State) : s.resetOwesNothing = true ↔ s.OwesNothing := by
  unfold State.resetOwesNothing State.OwesNothing
  cases s.resetScope with
  | none => simp
  | some scope => simp [SlotId.all, SlotId.forall_iff, Slot.nothingOwed, Entry.isFenced, ← Bool.not_eq_true, imp_iff_not_or]

/-- The end of a RESET PART, in one record. -/
theorem State.endReset_eq (s : State) : s.endReset = s.resetEnded := by
  unfold State.endReset State.restoreTables State.withdrawNotice State.present State.resetEnded
  rcases s.presenting with _ | _ | _ <;> cases s.waitingAnswer <;>
    simp [PerSlot.map, Slot.restoreDefaults_eq, PerSlot.all, Notices.default, HealthMonitor.default]

/-- What every event that can end a RESET PART ends with. -/
theorem State.settleReset_eq (s : State) :
    (s.OwesNothing → s.settleReset = s.resetEnded) ∧ (¬s.OwesNothing → s.settleReset = s) := by
  unfold State.settleReset
  constructor <;> intro h <;> simp [State.resetOwesNothing_iff, h, State.endReset_eq]

theorem State.raiseSlot_eq (s : State) (i : SlotId) : s.raiseSlot i = s.bitRaised i := by
  unfold State.raiseSlot State.raiseSummary State.bitRaised State.queueNotice State.present
  cases h1 : s.notices.summary.isClear
  · simp
  · cases h2 : s.notices.armed
    · simp_all [Notices.armed]
    · have h3 : ({ s.notices with summary := { s.notices.summary with slots := s.notices.summary.slots.set i true } } :
          Notices).armed = true := h2
      simp only [if_true, h3, Bool.and_self, Bool.or_true]
      cases h4 : s.presenting
      · cases h5 : s.waitingAnswer <;> simp
      · simp

theorem Slot.stopSequence_eq (p : Slot) : p.stopSequence = p.stopped := by
  unfold Slot.stopSequence Slot.stopped Slot.leaveRestoring
  split <;> simp_all [Slot.stopExecutor, ScriptStore.commit, ScriptStore.stagingSteps]

theorem Slot.countAttempt_eq (p : Slot) : p.countAttempt = p.attemptFailed := by
  unfold Slot.countAttempt Slot.attemptFailed
  cases p.seq.level with
  | none => rfl
  | some l => simp only [Slot.setAttempts, Slot.notePending]; split <;> simp_all [satAdd, Config.attemptLimit]

theorem Slot.takeSample_eq (p : Slot) : p.takeSample = p.sampled := by
  unfold Slot.takeSample Slot.sampled Slot.setAttempts Slot.notePending
  simp only [PerLevel.lowerTo]
  split <;> simp_all

theorem Slot.beginLevel_eq (p : Slot) (l : Level) : p.beginLevel l = p.attempting l := by
  unfold Slot.beginLevel Slot.attempting Slot.raiseHighest Slot.notePending
  by_cases h : p.current.outcome = .pending
  · by_cases h2 : levelNumber p.current.highest < l.rank
    · simp [h, h2]
    · simp only [h, h2, and_false, if_true, if_false]
      rw [← h]
  · simp [h]

theorem Slot.enterPhase_eq (p : Slot) (ph : Phase) (t : UnitTimer) : p.enterPhase ph t = p.inPhase ph t := rfl

theorem Slot.enterResetAssert_eq (p : Slot) : p.enterResetAssert = p.inResetAssert := by
  simp [Slot.enterResetAssert, Slot.inResetAssert, Slot.enterPhase_eq, Slot.tombstoneClear_eq, Slot.assertReset, units,
    Nat.mul_comm, Slot.clearedOrt]

theorem Slot.enterPowerOff_eq (p : Slot) : p.enterPowerOff = p.inPowerOff := by
  simp [Slot.enterPowerOff, Slot.inPowerOff, Slot.enterPhase_eq, Slot.tombstoneClear_eq, Slot.assertReset, Slot.setPower,
    units, Nat.mul_comm, Slot.clearedOrt]

theorem Slot.issue_eq {p : Slot} {a : AccessRequest} (h : p.phaseAccess = some a) : p.issue = p.issuing a := by
  unfold Slot.issue Slot.issuing
  rw [h]
  simp only
  split <;> rfl

/-! ### Incidents and ends of sequences -/

theorem State.bitRaised_withSlotAt (s : State) (i j : SlotId) (p : Slot) :
    (s.withSlotAt j p).bitRaised i = (s.bitRaised i).withSlotAt j p := rfl

theorem State.closeIncident_eq (s : State) (i : SlotId) (o : IncidentOutcome) : s.closeIncident i o = s.closedAt i o := by
  unfold State.closeIncident State.closedAt
  simp only [State.raiseSlot_eq, State.modSlot_withSlotAt, State.withSlotAt_slot, State.withSlotAt_withSlotAt,
    State.bitRaised_withSlotAt]
  rfl

theorem State.retire_eq (s : State) (i : SlotId) (a : RetireAction) : s.retire i a = s.retiredAt i a := by
  unfold State.retire State.retiredAt
  rw [State.closeIncident_eq, State.modSlot_withSlotAt, Slot.stopSequence_eq]
  cases a <;> simp [Slot.assertReset, Slot.setPower, Slot.clearHeld, Slot.setState]

theorem State.failAdmission_eq (s : State) (i : SlotId) : s.failAdmission i = s.admissionFailed i := by
  unfold State.failAdmission State.admissionFailed
  rw [State.closeIncident_eq, State.modSlot_withSlotAt, Slot.stopSequence_eq]
  simp [Slot.assertReset, Slot.setPower, Slot.clearHeld, Slot.setState]

theorem State.goOnline_eq (s : State) (i : SlotId) : s.goOnline i = s.wentOnline i := by
  unfold State.goOnline State.wentOnline
  rw [State.closeIncident_eq, State.modSlot_withSlotAt]
  rfl

theorem Slot.enterProbation_eq (p : Slot) : p.enterProbation = p.inProbation := by
  unfold Slot.enterProbation Slot.inProbation
  rw [Slot.stopSequence_eq]
  simp [Slot.stopped, units, Nat.mul_comm, Estimator.zero]

theorem State.enterProbation_eq (s : State) (i : SlotId) : s.enterProbation i = s.probating i (s.slot i) := by
  unfold State.enterProbation State.probating
  simp only [State.modSlot_withSlotAt, Slot.enterProbation_eq, State.goOnline_eq]

theorem State.enterSettle_eq (s : State) (i : SlotId) : s.enterSettle i = s.settling i (s.slot i) := by
  unfold State.enterSettle State.settling
  simp [State.modSlot_withSlotAt, Slot.inSettle, Slot.enterPhase_eq, Slot.stopExecutor, units, Nat.mul_comm, Slot.inPhase]

theorem Slot.startStep_eq (p : Slot) (k : Nat) (st : Step) (hp : p.seq.phase = some .restoring)
    (hk : p.script.active[k]? = some st) : p.startStep k st = p.stepStarted k st := by
  have ha : ∀ x : Executor, x.step = some k → ({ p with exec := x } : Slot).phaseAccess = st.access := by
    intro x hx
    simp [Slot.phaseAccess, hp, Slot.currentStep, hx, hk]
  unfold Slot.startStep Slot.stepStarted
  cases st with
  | write off be v =>
    rw [Slot.issue_eq (ha _ rfl)]; simp [Executor.loadStep, units, Nat.mul_comm]
  | verify off m x =>
    rw [Slot.issue_eq (ha _ rfl)]; simp [Executor.loadStep, units, Nat.mul_comm]
  | poll off m x l =>
    rw [Slot.issue_eq (ha _ rfl)]; simp [Executor.loadStep, units, Nat.mul_comm]
  | pause n =>
    have := ha (p.exec.loadStep k p.seq.sample.stepLimit (.pause n)) rfl
    simp only [Slot.issue, this, Step.access]
    simp [Executor.loadStep, units, Nat.mul_comm]

/-! ### Trips -/

theorem Slot.drainEntered_eq (p : Slot) :
    ({ p.closeGates.setState .draining with seq := { (p.closeGates.setState .draining).seq with
        probationTimer := none, drainTimer := some (units (p.closeGates.setState .draining).seq.plan.drain) } } : Slot) =
      p.drainEntered := by
  rw [Slot.closeGates_eq]
  simp [Slot.setState, Slot.drainEntered, Slot.gatesClosed, units, Nat.mul_comm]

@[simp] theorem Slot.drainEntered_ort (p : Slot) : p.drainEntered.traffic.ort = p.traffic.ort := rfl
@[simp] theorem Slot.drainEntered_plan (p : Slot) : p.drainEntered.seq.plan = p.seq.plan := rfl

theorem State.enterDraining_eq (s : State) (i : SlotId) :
    s.enterDraining i =
      (if (s.slot i).liveCount = 0 ∨ (s.slot i).seq.plan.drain = 0 then
        (s.withSlotAt i (s.slot i).drainEntered).endDraining i
      else s.withSlotAt i (s.slot i).drainEntered) := by
  unfold State.enterDraining
  simp only [State.modSlot_withSlotAt, Slot.drainEntered_eq, State.withSlotAt_slot]
  rfl

end Sys2Proof.Machine
end

