-- ==== Sys2Proof/Laws/Queues.lean ====
section
/-! SUPPORT. What the shared operations of the queues, the ORT and the SAQ do, each said once: departure, admission,
reconsideration, the judging of answers, the telling of owners, the items of the SAQ. -/

namespace Sys2Proof.Machine

/-! ### Kinds of transaction -/

/-- The non-posted requests are those with a key. -/
theorem nonPosted_iff_key (tx : Transaction) : nonPosted tx = true ↔ ∃ k, keyOf tx = some k := by
  cases tx <;> simp [nonPosted, keyOf]

/-- The non-posted requests are those the ORT can hold. -/
theorem nonPosted_iff_entry (tx : Transaction) : nonPosted tx = true ↔ ∃ x, entryRequestOf tx = some x := by
  cases tx <;> simp [nonPosted, entryRequestOf]

/-- A request that the ORT can hold has its key, owes its bytes and counts as a request. -/
theorem entryRequestOf_some {tx : Transaction} {r : Requester} {t : Tag} {q : EntryRequest}
    (h : entryRequestOf tx = some (r, t, q)) :
    keyOf tx = some (r, t) ∧ nonPosted tx = true ∧ isRequest tx = true ∧ q.owed = owedBytes tx := by
  cases tx <;> simp [entryRequestOf] at h <;> obtain ⟨rfl, rfl, rfl⟩ := h <;>
    simp [keyOf, nonPosted, isRequest, EntryRequest.owed, owedBytes]

/-- The UNSUPPORTED item of a request with a key (R13, R26). -/
theorem unsupportedItem_some {tx : Transaction} {r : Requester} {t : Tag} (h : keyOf tx = some (r, t)) :
    unsupportedItem tx = some
      { requester := r, tag := t, status := .unsupported, remaining := owedBytes tx, style := .none, owner := none } := by
  cases tx <;> simp [keyOf] at h <;> obtain ⟨rfl, rfl⟩ := h <;> rfl

theorem unsupportedItem_none {tx : Transaction} (h : nonPosted tx = false) : unsupportedItem tx = none := by
  cases tx <;> simp [nonPosted] at h <;> rfl

/-- The containment item of a request with a key, in the slot's style (R90, R92). -/
theorem containmentItem_some {tx : Transaction} {r : Requester} {t : Tag} (p : Slot) (h : keyOf tx = some (r, t)) :
    p.containmentItem tx = some
      { requester := r, tag := t, status := (p.answerStyle.contents (readsData tx)).1, remaining := owedBytes tx,
        style := (p.answerStyle.contents (readsData tx)).2, owner := none } := by
  cases tx <;> simp [keyOf] at h <;> obtain ⟨rfl, rfl⟩ := h <;> rfl

theorem containmentItem_none {tx : Transaction} (p : Slot) (h : nonPosted tx = false) : p.containmentItem tx = none := by
  cases tx <;> simp [nonPosted] at h <;> rfl

/-! ### Departure and admission (R16, R25) -/

/-- A departure, in one record. -/
theorem Slot.depart_eq (p : Slot) (tx : Transaction) :
    p.depart tx = { p with
      traffic := { p.traffic with
        sendQueue := p.traffic.sendQueue.tail, linkSent := p.traffic.linkSent ++ [toLink tx] }
      counters := if isRequest tx then
          { p.counters with forwarded := min 4294967295 (p.counters.forwarded + 1) }
        else p.counters
      detect := { p.detect with stallCount := p.detect.monitor.stallLimit } } := rfl

/-- An admission, in one record. -/
theorem Slot.admitEntry_eq (p : Slot) (now : Ticks) {tx : Transaction} {r : Requester} {t : Tag} {q : EntryRequest}
    (h : entryRequestOf tx = some (r, t, q)) :
    p.admitEntry now tx = { p with
      traffic := { p.traffic with
        sendQueue := p.traffic.sendQueue.tail
        linkSent := p.traffic.linkSent ++ [toLink tx]
        ort := p.traffic.ort ++ [
          { number := freeNumber p.traffic.ort, requester := r, tag := t, request := q, issueTime := now,
            deadline := now + BitVec.ofNat 32 (p.deadlines.allowance q.cls q.length), remaining := owedBytes tx,
            keepKey := true, state := .live }] }
      counters := { p.counters with forwarded := min 4294967295 (p.counters.forwarded + 1) }
      detect := { p.detect with stallCount := p.detect.monitor.stallLimit } } := by
  obtain ⟨-, -, hr, ho⟩ := entryRequestOf_some h
  rw [Slot.admitEntry, h]
  simp only [Slot.depart_eq, hr, if_true, Slot.newEntry, ho]

/-- A duplicate key is a key that an entry holds. -/
theorem Slot.duplicateKey_iff (p : Slot) {tx : Transaction} {r : Requester} {t : Tag} (h : keyOf tx = some (r, t)) :
    p.duplicateKey tx = true ↔ ∃ e ∈ p.traffic.ort, e.requester = r ∧ e.tag = t := by
  simp [Slot.duplicateKey, h, Entry.hasKey]

/-- What the ORT lets in: a non-posted request whose key and one entry are free. -/
theorem Slot.admissible_iff (p : Slot) {tx : Transaction} {r : Requester} {t : Tag} (h : keyOf tx = some (r, t)) :
    p.admissible tx = true ↔
      (∀ e ∈ p.traffic.ort, ¬(e.requester = r ∧ e.tag = t)) ∧ p.traffic.ort.length < 32 := by
  have hn : nonPosted tx = true := (nonPosted_iff_key tx).2 ⟨_, h⟩
  have hd : p.duplicateKey tx = false ↔ ∀ e ∈ p.traffic.ort, ¬(e.requester = r ∧ e.tag = t) := by
    rw [← Bool.not_eq_true, p.duplicateKey_iff h]
    push Not
    rfl
  rw [Slot.admissible, hn, Bool.true_and, Bool.and_eq_true, decide_eq_true_iff, Bool.not_eq_true', hd]
  rfl

/-- Reconsideration without room on the link changes nothing. -/
@[simp] theorem Slot.reconsider_noRoom (p : Slot) (now : Ticks) : p.reconsider now false = p := by
  unfold Slot.reconsider
  split <;> simp

/-- Reconsideration changes nothing where no non-posted head waits at a serving slot with room on its link. -/
theorem Slot.reconsider_noneWaits (p : Slot) (now : Ticks) (room : Bool)
    (h : room = true → p.serving = false ∨ ∀ tx, p.traffic.sendQueue.head? = some tx → nonPosted tx = false) :
    p.reconsider now room = p := by
  unfold Slot.reconsider
  rcases hq : p.traffic.sendQueue.head? with _ | tx
  · rfl
  · rcases room with _ | _
    · simp
    · rcases h rfl with h | h
      · simp [h]
      · simp [Slot.admissible, h tx hq]

/-- Reconsideration admits the head or changes nothing. -/
theorem Slot.reconsider_cases (p : Slot) (now : Ticks) (room : Bool) :
    p.reconsider now room = p ∨
      ∃ tx, p.traffic.sendQueue.head? = some tx ∧ p.serving = true ∧ p.lines.linkUp = true ∧ room = true ∧
        p.admissible tx = true ∧ p.reconsider now room = p.admitEntry now tx := by
  unfold Slot.reconsider
  rcases p.traffic.sendQueue.head? with _ | tx
  · exact .inl rfl
  · by_cases h : (p.serving && p.lines.linkUp && room && p.admissible tx) = true
    · refine .inr ⟨tx, rfl, ?_⟩
      simp only [Bool.and_eq_true] at h
      exact ⟨h.1.1.1, h.1.1.2, h.1.2, h.2, by simp [h.1.1.1, h.1.1.2, h.1.2, h.2]⟩
    · exact .inl (by simp only [if_neg h])

/-! ### Judging a card's answer (R28 to R35) -/

theorem Entry.judge_final_iff (e : Entry) (st : Status) (rem cnt : Nat) :
    e.judge st rem cnt = .final ↔ st ≠ .ok ∨ e.request.cls = .cfg ∨ (rem = e.remaining ∧ cnt = rem) := by
  unfold Entry.judge
  by_cases hs : st = .ok
  · rcases hc : e.request.cls with _ | _
    · simp only [hs, ne_eq, not_true_eq_false, if_false, false_or, reduceCtorEq]
      split_ifs <;> simp only [true_iff, false_iff] <;> omega
    · simp [hs]
  · simp [hs]

theorem Entry.judge_partly_iff (e : Entry) (st : Status) (rem cnt : Nat) :
    e.judge st rem cnt = .partly ↔ st = .ok ∧ e.request.cls = .mem ∧ rem = e.remaining ∧ cnt < rem := by
  unfold Entry.judge
  by_cases hs : st = .ok
  · rcases hc : e.request.cls with _ | _
    · simp only [hs, ne_eq, not_true_eq_false, if_false, true_and]
      split_ifs <;> simp only [true_iff, false_iff] <;> omega
    · simp [hs]
  · simp [hs]

/-- A stray answer: no entry has its key (R33). -/
theorem Slot.takeAnswer_stray (p : Slot) (now : Ticks) (r : Requester) (t : Tag) (st : Status) (rem cnt : Nat)
    (tx : Transaction) (room : Bool) (h : ∀ x ∈ p.traffic.ort, ¬(x.requester = r ∧ x.tag = t)) :
    p.takeAnswer now r t st rem cnt tx room = p.countStray := by
  have hf : p.traffic.ort.find? (Entry.hasKey r t) = none := by
    rw [List.find?_eq_none]
    intro x hx
    simpa [Entry.hasKey] using h x hx
  rw [Slot.takeAnswer, hf]

/-- The entry that an answer's key selects. -/
theorem find_key {ort older younger : List Entry} {e : Entry} {r : Requester} {t : Tag} (ho : ort = older ++ e :: younger)
    (h : ∀ x ∈ older, ¬(x.requester = r ∧ x.tag = t)) (hr : e.requester = r) (ht : e.tag = t) :
    ort.find? (Entry.hasKey r t) = some e := by
  rw [ho]
  exact find?_split _ _ _ _ (fun x hx => by simpa [Entry.hasKey] using h x hx) (by simp [Entry.hasKey, hr, ht])

/-- The entry that an answer's key selects leaves the list. -/
theorem erase_key {ort older younger : List Entry} {e : Entry} {r : Requester} {t : Tag} (ho : ort = older ++ e :: younger)
    (h : ∀ x ∈ older, ¬(x.requester = r ∧ x.tag = t)) (hr : e.requester = r) (ht : e.tag = t) :
    ort.eraseP (Entry.hasKey r t) = older ++ younger := by
  rw [ho]
  exact eraseP_split _ _ _ _ (fun x hx => by simpa [Entry.hasKey] using h x hx) (by simp [Entry.hasKey, hr, ht])

/-- The entry that an answer's key selects is changed. -/
theorem update_key {ort older younger : List Entry} {e : Entry} {r : Requester} {t : Tag} (f : Entry → Entry)
    (ho : ort = older ++ e :: younger) (h : ∀ x ∈ older, ¬(x.requester = r ∧ x.tag = t)) (hr : e.requester = r)
    (ht : e.tag = t) : updateFirst (Entry.hasKey r t) f ort = older ++ f e :: younger := by
  rw [ho]
  exact updateFirst_split _ _ _ _ _ (fun x hx => by simpa [Entry.hasKey] using h x hx) (by simp [Entry.hasKey, hr, ht])

/-! ### Owners (R39) and the granted source (R20) -/

/-- The owning entry is told: TOMBSTONE with its key kept, else freed, which admits nothing where no head waits. -/
theorem Slot.ownerTold_eq (p : Slot) (now : Ticks) (n : Nat) (room : Bool) {older younger : List Entry} {e : Entry}
    (ho : p.traffic.ort = older ++ e :: younger) (h : ∀ x ∈ older, x.number ≠ n) (hn : e.number = n)
    (hw : room = true → e.keepKey = false →
      p.serving = false ∨ ∀ tx, p.traffic.sendQueue.head? = some tx → nonPosted tx = false) :
    p.ownerTold now n room = { p with traffic := { p.traffic with
      ort := if e.keepKey then older ++ { e with state := .tombstone } :: younger else older ++ younger } } := by
  have hf : ∀ x ∈ older, Entry.hasNumber n x = false := fun x hx => by simpa [Entry.hasNumber] using h x hx
  have he : Entry.hasNumber n e = true := by simp [Entry.hasNumber, hn]
  rw [Slot.ownerTold, ho, find?_split _ _ _ _ hf he]
  cases hk : e.keepKey
  · simp only [hk, Bool.false_eq_true, if_false, eraseP_split _ _ _ _ hf he]
    exact Slot.reconsider_noneWaits _ _ _ fun hr => hw hr hk
  · simp [updateFirst_split _ _ _ _ _ hf he, hk]

/-- SYN is ready exactly where the SAQ holds an item (R20). -/
theorem State.ready_syn {s : State} : s.ready .syn = true ↔ s.saq ≠ [] := by simp [State.ready]

/-- The granted source is ready. -/
theorem State.nextSource_ready {s : State} {src : Source} (h : s.nextSource = some src) : s.ready src = true :=
  List.find?_some h

/-- Nothing is granted where nothing is ready. -/
theorem State.nextSource_none {s : State} (h : ∀ src, s.ready src = false) : s.nextSource = none := by
  rw [State.nextSource, List.find?_eq_none]
  intro src _
  simp [h src]

/-- A source that is ready is on the ring, so something is granted. -/
theorem State.nextSource_some {s : State} {src : Source} (h : s.ready src = true) : ∃ x, s.nextSource = some x := by
  rw [← Option.isSome_iff_exists, State.nextSource, List.find?_isSome]
  exact ⟨src, by rcases hl : s.lastServed with i | _ | _ <;> (try cases i) <;> rcases src with j | _ | _ <;> (try cases j) <;>
    simp [ringAfter], h⟩

/-! ### The claims that a RESET PART in progress waits for -/

/-- Meeting one claim is the command of that claim, or nothing where nothing is owed. -/
theorem State.meetClaim_runs (s : State) : ∃ cs : List Instr, (∀ c ∈ cs, IsClaim c) ∧ Runs cs s s.meetClaim := by
  unfold State.meetClaim
  split
  · exact ⟨[], by simp, rfl⟩
  · rename_i i _
    split
    · exact ⟨[.fencedEntryAnswer i], by simp [IsClaim], _, rfl, rfl⟩
    · exact ⟨[.containmentQueueAnswer i], by simp [IsClaim], _, rfl, rfl⟩

theorem Runs.append {cs ds : List Instr} {s t u : State} (h : Runs cs s t) (k : Runs ds t u) : Runs (cs ++ ds) s u := by
  induction cs generalizing s with
  | nil => cases h; exact k
  | cons c cs ih => obtain ⟨v, hv, h⟩ := h; exact ⟨v, hv, ih h⟩

/-- Meeting claims is a run of their commands. -/
theorem State.meetClaims_runs (n : Nat) (s : State) :
    ∃ cs : List Instr, (∀ c ∈ cs, IsClaim c) ∧ Runs cs s (State.meetClaims n s) := by
  induction n generalizing s with
  | zero => exact ⟨[], by simp, rfl⟩
  | succ n ih =>
    unfold State.meetClaims
    split
    · obtain ⟨cs, hc, hr⟩ := s.meetClaim_runs
      obtain ⟨ds, hd, hs⟩ := ih s.meetClaim
      exact ⟨cs ++ ds, fun c h => (List.mem_append.1 h).elim (hc c) (hd c), hr.append hs⟩
    · exact ⟨[], by simp, rfl⟩

/-- What comes before a grant of SYN is a run of claims. -/
theorem State.beforeSyn_runs (s : State) : ∃ cs : List Instr, (∀ c ∈ cs, IsClaim c) ∧ Runs cs s s.beforeSyn := by
  unfold State.beforeSyn
  split
  · exact ⟨[], by simp, rfl⟩
  · split
    · exact s.meetClaims_runs _
    · exact ⟨[], by simp, rfl⟩

/-- Nothing comes before a grant of SYN unless the reset in progress appended the head item and the SAQ has room. -/
theorem State.beforeSyn_eq {s : State} {item : SaqItem} {rest : List SaqItem} (h : s.saq = item :: rest)
    (hh : ¬(s.resetScope.isSome = true ∧ item.ofReset = true ∧ s.saq.length < 64)) : s.beforeSyn = s := by
  unfold State.beforeSyn State.resetHolds State.saqRoom Config.saqItems
  rw [h] at hh ⊢
  simp only [Bool.and_eq_true, decide_eq_true_eq, and_assoc]
  rw [if_neg hh]

/-- A grant of SYN. -/
theorem exec_egressGrant_syn {s : State} (room : Bool) (hup : s.trunkUp = true) (hn : s.nextSource = some .syn) :
    exec (.egressGrant room) s = .next { s.beforeSyn.grantSyn room with lastServed := .syn } := by
  show execEgressGrant room s = _
  simp only [execEgressGrant, hup, hn, if_true]

end Sys2Proof.Machine
end

