-- ==== Sys2Proof/Laws/Slot.lean ====
section
/-! SUPPORT. The frame of each operation on one slot: for every record of the slot that the operation does not touch, one
`@[simp]` lemma that says so; then what the touched records hold. -/

namespace Sys2Proof.Machine

variable (p : Slot)

@[simp] theorem Slot.notePending_seq (f : Incident → Incident) : (p.notePending f).seq = p.seq := by
  unfold Slot.notePending
  split <;> rfl
@[simp] theorem Slot.notePending_traffic (f : Incident → Incident) : (p.notePending f).traffic = p.traffic := by
  unfold Slot.notePending
  split <;> rfl
@[simp] theorem Slot.notePending_deadlines (f : Incident → Incident) : (p.notePending f).deadlines = p.deadlines := by
  unfold Slot.notePending
  split <;> rfl
@[simp] theorem Slot.notePending_detect (f : Incident → Incident) : (p.notePending f).detect = p.detect := by
  unfold Slot.notePending
  split <;> rfl
@[simp] theorem Slot.notePending_lines (f : Incident → Incident) : (p.notePending f).lines = p.lines := by
  unfold Slot.notePending
  split <;> rfl
@[simp] theorem Slot.notePending_script (f : Incident → Incident) : (p.notePending f).script = p.script := by
  unfold Slot.notePending
  split <;> rfl
@[simp] theorem Slot.notePending_exec (f : Incident → Incident) : (p.notePending f).exec = p.exec := by
  unfold Slot.notePending
  split <;> rfl
@[simp] theorem Slot.notePending_previous (f : Incident → Incident) : (p.notePending f).previous = p.previous := by
  unfold Slot.notePending
  split <;> rfl
@[simp] theorem Slot.notePending_counters (f : Incident → Incident) : (p.notePending f).counters = p.counters := by
  unfold Slot.notePending
  split <;> rfl

@[simp] theorem Slot.countDroppedCardRequests_seq (k : Nat) : (p.countDroppedCardRequests k).seq = p.seq := by
  simp [Slot.countDroppedCardRequests]
@[simp] theorem Slot.countDroppedCardRequests_traffic (k : Nat) : (p.countDroppedCardRequests k).traffic = p.traffic := by
  simp [Slot.countDroppedCardRequests]
@[simp] theorem Slot.countDroppedCardRequests_deadlines (k : Nat) : (p.countDroppedCardRequests k).deadlines = p.deadlines := by
  simp [Slot.countDroppedCardRequests]
@[simp] theorem Slot.countDroppedCardRequests_detect (k : Nat) : (p.countDroppedCardRequests k).detect = p.detect := by
  simp [Slot.countDroppedCardRequests]
@[simp] theorem Slot.countDroppedCardRequests_lines (k : Nat) : (p.countDroppedCardRequests k).lines = p.lines := by
  simp [Slot.countDroppedCardRequests]
@[simp] theorem Slot.countDroppedCardRequests_script (k : Nat) : (p.countDroppedCardRequests k).script = p.script := by
  simp [Slot.countDroppedCardRequests]
@[simp] theorem Slot.countDroppedCardRequests_exec (k : Nat) : (p.countDroppedCardRequests k).exec = p.exec := by
  simp [Slot.countDroppedCardRequests]
@[simp] theorem Slot.countDroppedCardRequests_previous (k : Nat) : (p.countDroppedCardRequests k).previous = p.previous := by
  simp [Slot.countDroppedCardRequests]

@[simp] theorem Slot.countDroppedWrites_seq (k : Nat) : (p.countDroppedWrites k).seq = p.seq := by
  rfl
@[simp] theorem Slot.countDroppedWrites_traffic (k : Nat) : (p.countDroppedWrites k).traffic = p.traffic := by
  rfl
@[simp] theorem Slot.countDroppedWrites_deadlines (k : Nat) : (p.countDroppedWrites k).deadlines = p.deadlines := by
  rfl
@[simp] theorem Slot.countDroppedWrites_detect (k : Nat) : (p.countDroppedWrites k).detect = p.detect := by
  rfl
@[simp] theorem Slot.countDroppedWrites_lines (k : Nat) : (p.countDroppedWrites k).lines = p.lines := by
  rfl
@[simp] theorem Slot.countDroppedWrites_script (k : Nat) : (p.countDroppedWrites k).script = p.script := by
  rfl
@[simp] theorem Slot.countDroppedWrites_exec (k : Nat) : (p.countDroppedWrites k).exec = p.exec := by
  rfl
@[simp] theorem Slot.countDroppedWrites_current (k : Nat) : (p.countDroppedWrites k).current = p.current := by
  rfl
@[simp] theorem Slot.countDroppedWrites_previous (k : Nat) : (p.countDroppedWrites k).previous = p.previous := by
  rfl

@[simp] theorem Slot.countSynthetic_seq : (p.countSynthetic).seq = p.seq := by
  simp [Slot.countSynthetic]
@[simp] theorem Slot.countSynthetic_traffic : (p.countSynthetic).traffic = p.traffic := by
  simp [Slot.countSynthetic]
@[simp] theorem Slot.countSynthetic_deadlines : (p.countSynthetic).deadlines = p.deadlines := by
  simp [Slot.countSynthetic]
@[simp] theorem Slot.countSynthetic_detect : (p.countSynthetic).detect = p.detect := by
  simp [Slot.countSynthetic]
@[simp] theorem Slot.countSynthetic_lines : (p.countSynthetic).lines = p.lines := by
  simp [Slot.countSynthetic]
@[simp] theorem Slot.countSynthetic_script : (p.countSynthetic).script = p.script := by
  simp [Slot.countSynthetic]
@[simp] theorem Slot.countSynthetic_exec : (p.countSynthetic).exec = p.exec := by
  simp [Slot.countSynthetic]
@[simp] theorem Slot.countSynthetic_previous : (p.countSynthetic).previous = p.previous := by
  simp [Slot.countSynthetic]

@[simp] theorem Slot.countStale_seq : (p.countStale).seq = p.seq := by
  simp [Slot.countStale]
@[simp] theorem Slot.countStale_traffic : (p.countStale).traffic = p.traffic := by
  simp [Slot.countStale]
@[simp] theorem Slot.countStale_deadlines : (p.countStale).deadlines = p.deadlines := by
  simp [Slot.countStale]
@[simp] theorem Slot.countStale_detect : (p.countStale).detect = p.detect := by
  simp [Slot.countStale]
@[simp] theorem Slot.countStale_lines : (p.countStale).lines = p.lines := by
  simp [Slot.countStale]
@[simp] theorem Slot.countStale_script : (p.countStale).script = p.script := by
  simp [Slot.countStale]
@[simp] theorem Slot.countStale_exec : (p.countStale).exec = p.exec := by
  simp [Slot.countStale]
@[simp] theorem Slot.countStale_previous : (p.countStale).previous = p.previous := by
  simp [Slot.countStale]

@[simp] theorem Slot.countStray_seq : (p.countStray).seq = p.seq := by
  rfl
@[simp] theorem Slot.countStray_traffic : (p.countStray).traffic = p.traffic := by
  rfl
@[simp] theorem Slot.countStray_deadlines : (p.countStray).deadlines = p.deadlines := by
  rfl
@[simp] theorem Slot.countStray_lines : (p.countStray).lines = p.lines := by
  rfl
@[simp] theorem Slot.countStray_script : (p.countStray).script = p.script := by
  rfl
@[simp] theorem Slot.countStray_exec : (p.countStray).exec = p.exec := by
  rfl
@[simp] theorem Slot.countStray_current : (p.countStray).current = p.current := by
  rfl
@[simp] theorem Slot.countStray_previous : (p.countStray).previous = p.previous := by
  rfl

@[simp] theorem Slot.countDuplicate_seq : (p.countDuplicate).seq = p.seq := by
  rfl
@[simp] theorem Slot.countDuplicate_traffic : (p.countDuplicate).traffic = p.traffic := by
  rfl
@[simp] theorem Slot.countDuplicate_deadlines : (p.countDuplicate).deadlines = p.deadlines := by
  rfl
@[simp] theorem Slot.countDuplicate_detect : (p.countDuplicate).detect = p.detect := by
  rfl
@[simp] theorem Slot.countDuplicate_lines : (p.countDuplicate).lines = p.lines := by
  rfl
@[simp] theorem Slot.countDuplicate_script : (p.countDuplicate).script = p.script := by
  rfl
@[simp] theorem Slot.countDuplicate_exec : (p.countDuplicate).exec = p.exec := by
  rfl
@[simp] theorem Slot.countDuplicate_current : (p.countDuplicate).current = p.current := by
  rfl
@[simp] theorem Slot.countDuplicate_previous : (p.countDuplicate).previous = p.previous := by
  rfl

@[simp] theorem Slot.countTrip_seq : (p.countTrip).seq = p.seq := by
  rfl
@[simp] theorem Slot.countTrip_traffic : (p.countTrip).traffic = p.traffic := by
  rfl
@[simp] theorem Slot.countTrip_deadlines : (p.countTrip).deadlines = p.deadlines := by
  rfl
@[simp] theorem Slot.countTrip_detect : (p.countTrip).detect = p.detect := by
  rfl
@[simp] theorem Slot.countTrip_lines : (p.countTrip).lines = p.lines := by
  rfl
@[simp] theorem Slot.countTrip_script : (p.countTrip).script = p.script := by
  rfl
@[simp] theorem Slot.countTrip_exec : (p.countTrip).exec = p.exec := by
  rfl
@[simp] theorem Slot.countTrip_current : (p.countTrip).current = p.current := by
  rfl
@[simp] theorem Slot.countTrip_previous : (p.countTrip).previous = p.previous := by
  rfl

@[simp] theorem Slot.fenceAll_seq : (p.fenceAll).seq = p.seq := by
  rfl
@[simp] theorem Slot.fenceAll_deadlines : (p.fenceAll).deadlines = p.deadlines := by
  rfl
@[simp] theorem Slot.fenceAll_detect : (p.fenceAll).detect = p.detect := by
  rfl
@[simp] theorem Slot.fenceAll_lines : (p.fenceAll).lines = p.lines := by
  rfl
@[simp] theorem Slot.fenceAll_script : (p.fenceAll).script = p.script := by
  rfl
@[simp] theorem Slot.fenceAll_exec : (p.fenceAll).exec = p.exec := by
  rfl
@[simp] theorem Slot.fenceAll_current : (p.fenceAll).current = p.current := by
  rfl
@[simp] theorem Slot.fenceAll_previous : (p.fenceAll).previous = p.previous := by
  rfl
@[simp] theorem Slot.fenceAll_counters : (p.fenceAll).counters = p.counters := by
  rfl

@[simp] theorem Slot.tombstoneClear_seq : (p.tombstoneClear).seq = p.seq := by
  rfl
@[simp] theorem Slot.tombstoneClear_deadlines : (p.tombstoneClear).deadlines = p.deadlines := by
  rfl
@[simp] theorem Slot.tombstoneClear_detect : (p.tombstoneClear).detect = p.detect := by
  rfl
@[simp] theorem Slot.tombstoneClear_lines : (p.tombstoneClear).lines = p.lines := by
  rfl
@[simp] theorem Slot.tombstoneClear_script : (p.tombstoneClear).script = p.script := by
  rfl
@[simp] theorem Slot.tombstoneClear_exec : (p.tombstoneClear).exec = p.exec := by
  rfl
@[simp] theorem Slot.tombstoneClear_current : (p.tombstoneClear).current = p.current := by
  rfl
@[simp] theorem Slot.tombstoneClear_previous : (p.tombstoneClear).previous = p.previous := by
  rfl
@[simp] theorem Slot.tombstoneClear_counters : (p.tombstoneClear).counters = p.counters := by
  rfl

@[simp] theorem Slot.ortRemoval_seq : (p.ortRemoval).seq = p.seq := by
  rfl
@[simp] theorem Slot.ortRemoval_deadlines : (p.ortRemoval).deadlines = p.deadlines := by
  rfl
@[simp] theorem Slot.ortRemoval_detect : (p.ortRemoval).detect = p.detect := by
  rfl
@[simp] theorem Slot.ortRemoval_lines : (p.ortRemoval).lines = p.lines := by
  rfl
@[simp] theorem Slot.ortRemoval_script : (p.ortRemoval).script = p.script := by
  rfl
@[simp] theorem Slot.ortRemoval_exec : (p.ortRemoval).exec = p.exec := by
  rfl
@[simp] theorem Slot.ortRemoval_current : (p.ortRemoval).current = p.current := by
  rfl
@[simp] theorem Slot.ortRemoval_previous : (p.ortRemoval).previous = p.previous := by
  rfl
@[simp] theorem Slot.ortRemoval_counters : (p.ortRemoval).counters = p.counters := by
  rfl

@[simp] theorem Slot.reloadStall_seq : (p.reloadStall).seq = p.seq := by
  rfl
@[simp] theorem Slot.reloadStall_traffic : (p.reloadStall).traffic = p.traffic := by
  rfl
@[simp] theorem Slot.reloadStall_deadlines : (p.reloadStall).deadlines = p.deadlines := by
  rfl
@[simp] theorem Slot.reloadStall_lines : (p.reloadStall).lines = p.lines := by
  rfl
@[simp] theorem Slot.reloadStall_script : (p.reloadStall).script = p.script := by
  rfl
@[simp] theorem Slot.reloadStall_exec : (p.reloadStall).exec = p.exec := by
  rfl
@[simp] theorem Slot.reloadStall_current : (p.reloadStall).current = p.current := by
  rfl
@[simp] theorem Slot.reloadStall_previous : (p.reloadStall).previous = p.previous := by
  rfl
@[simp] theorem Slot.reloadStall_counters : (p.reloadStall).counters = p.counters := by
  rfl

@[simp] theorem Slot.dropPosted_seq : (p.dropPosted).seq = p.seq := by
  simp [Slot.dropPosted]
@[simp] theorem Slot.dropPosted_deadlines : (p.dropPosted).deadlines = p.deadlines := by
  simp [Slot.dropPosted]
@[simp] theorem Slot.dropPosted_detect : (p.dropPosted).detect = p.detect := by
  simp [Slot.dropPosted]
@[simp] theorem Slot.dropPosted_lines : (p.dropPosted).lines = p.lines := by
  simp [Slot.dropPosted]
@[simp] theorem Slot.dropPosted_script : (p.dropPosted).script = p.script := by
  simp [Slot.dropPosted]
@[simp] theorem Slot.dropPosted_exec : (p.dropPosted).exec = p.exec := by
  simp [Slot.dropPosted]
@[simp] theorem Slot.dropPosted_current : (p.dropPosted).current = p.current := by
  simp [Slot.dropPosted]
@[simp] theorem Slot.dropPosted_previous : (p.dropPosted).previous = p.previous := by
  simp [Slot.dropPosted]

@[simp] theorem Slot.closeStage_seq : (p.closeStage).seq = p.seq := by
  unfold Slot.closeStage
  split <;> (try split) <;> simp
@[simp] theorem Slot.closeStage_deadlines : (p.closeStage).deadlines = p.deadlines := by
  unfold Slot.closeStage
  split <;> (try split) <;> simp
@[simp] theorem Slot.closeStage_detect : (p.closeStage).detect = p.detect := by
  unfold Slot.closeStage
  split <;> (try split) <;> simp
@[simp] theorem Slot.closeStage_lines : (p.closeStage).lines = p.lines := by
  unfold Slot.closeStage
  split <;> (try split) <;> simp
@[simp] theorem Slot.closeStage_script : (p.closeStage).script = p.script := by
  unfold Slot.closeStage
  split <;> (try split) <;> simp
@[simp] theorem Slot.closeStage_exec : (p.closeStage).exec = p.exec := by
  unfold Slot.closeStage
  split <;> (try split) <;> simp
@[simp] theorem Slot.closeStage_previous : (p.closeStage).previous = p.previous := by
  unfold Slot.closeStage
  split <;> (try split) <;> simp

@[simp] theorem Slot.closeGates_seq : (p.closeGates).seq = p.seq := by
  simp [Slot.closeGates]
@[simp] theorem Slot.closeGates_deadlines : (p.closeGates).deadlines = p.deadlines := by
  simp [Slot.closeGates]
@[simp] theorem Slot.closeGates_lines : (p.closeGates).lines = p.lines := by
  simp [Slot.closeGates]
@[simp] theorem Slot.closeGates_script : (p.closeGates).script = p.script := by
  simp [Slot.closeGates]
@[simp] theorem Slot.closeGates_exec : (p.closeGates).exec = p.exec := by
  simp [Slot.closeGates]
@[simp] theorem Slot.closeGates_previous : (p.closeGates).previous = p.previous := by
  simp [Slot.closeGates]

@[simp] theorem Slot.addFurther_seq (c : TripCause) : (p.addFurther c).seq = p.seq := by
  simp [Slot.addFurther]
@[simp] theorem Slot.addFurther_traffic (c : TripCause) : (p.addFurther c).traffic = p.traffic := by
  simp [Slot.addFurther]
@[simp] theorem Slot.addFurther_deadlines (c : TripCause) : (p.addFurther c).deadlines = p.deadlines := by
  simp [Slot.addFurther]
@[simp] theorem Slot.addFurther_detect (c : TripCause) : (p.addFurther c).detect = p.detect := by
  simp [Slot.addFurther]
@[simp] theorem Slot.addFurther_lines (c : TripCause) : (p.addFurther c).lines = p.lines := by
  simp [Slot.addFurther]
@[simp] theorem Slot.addFurther_script (c : TripCause) : (p.addFurther c).script = p.script := by
  simp [Slot.addFurther]
@[simp] theorem Slot.addFurther_exec (c : TripCause) : (p.addFurther c).exec = p.exec := by
  simp [Slot.addFurther]
@[simp] theorem Slot.addFurther_previous (c : TripCause) : (p.addFurther c).previous = p.previous := by
  simp [Slot.addFurther]
@[simp] theorem Slot.addFurther_counters (c : TripCause) : (p.addFurther c).counters = p.counters := by
  simp [Slot.addFurther]

@[simp] theorem Slot.setAttempts_traffic (a : PerLevel) : (p.setAttempts a).traffic = p.traffic := by
  simp [Slot.setAttempts]
@[simp] theorem Slot.setAttempts_deadlines (a : PerLevel) : (p.setAttempts a).deadlines = p.deadlines := by
  simp [Slot.setAttempts]
@[simp] theorem Slot.setAttempts_detect (a : PerLevel) : (p.setAttempts a).detect = p.detect := by
  simp [Slot.setAttempts]
@[simp] theorem Slot.setAttempts_lines (a : PerLevel) : (p.setAttempts a).lines = p.lines := by
  simp [Slot.setAttempts]
@[simp] theorem Slot.setAttempts_script (a : PerLevel) : (p.setAttempts a).script = p.script := by
  simp [Slot.setAttempts]
@[simp] theorem Slot.setAttempts_exec (a : PerLevel) : (p.setAttempts a).exec = p.exec := by
  simp [Slot.setAttempts]
@[simp] theorem Slot.setAttempts_previous (a : PerLevel) : (p.setAttempts a).previous = p.previous := by
  simp [Slot.setAttempts]
@[simp] theorem Slot.setAttempts_counters (a : PerLevel) : (p.setAttempts a).counters = p.counters := by
  simp [Slot.setAttempts]

@[simp] theorem Slot.leaveRestoring_seq : (p.leaveRestoring).seq = p.seq := by
  unfold Slot.leaveRestoring
  split <;> rfl
@[simp] theorem Slot.leaveRestoring_traffic : (p.leaveRestoring).traffic = p.traffic := by
  unfold Slot.leaveRestoring
  split <;> rfl
@[simp] theorem Slot.leaveRestoring_deadlines : (p.leaveRestoring).deadlines = p.deadlines := by
  unfold Slot.leaveRestoring
  split <;> rfl
@[simp] theorem Slot.leaveRestoring_detect : (p.leaveRestoring).detect = p.detect := by
  unfold Slot.leaveRestoring
  split <;> rfl
@[simp] theorem Slot.leaveRestoring_lines : (p.leaveRestoring).lines = p.lines := by
  unfold Slot.leaveRestoring
  split <;> rfl
@[simp] theorem Slot.leaveRestoring_exec : (p.leaveRestoring).exec = p.exec := by
  unfold Slot.leaveRestoring
  split <;> rfl
@[simp] theorem Slot.leaveRestoring_current : (p.leaveRestoring).current = p.current := by
  unfold Slot.leaveRestoring
  split <;> rfl
@[simp] theorem Slot.leaveRestoring_previous : (p.leaveRestoring).previous = p.previous := by
  unfold Slot.leaveRestoring
  split <;> rfl
@[simp] theorem Slot.leaveRestoring_counters : (p.leaveRestoring).counters = p.counters := by
  unfold Slot.leaveRestoring
  split <;> rfl

@[simp] theorem Slot.stopExecutor_seq : (p.stopExecutor).seq = p.seq := by
  rfl
@[simp] theorem Slot.stopExecutor_traffic : (p.stopExecutor).traffic = p.traffic := by
  rfl
@[simp] theorem Slot.stopExecutor_deadlines : (p.stopExecutor).deadlines = p.deadlines := by
  rfl
@[simp] theorem Slot.stopExecutor_detect : (p.stopExecutor).detect = p.detect := by
  rfl
@[simp] theorem Slot.stopExecutor_lines : (p.stopExecutor).lines = p.lines := by
  rfl
@[simp] theorem Slot.stopExecutor_script : (p.stopExecutor).script = p.script := by
  rfl
@[simp] theorem Slot.stopExecutor_current : (p.stopExecutor).current = p.current := by
  rfl
@[simp] theorem Slot.stopExecutor_previous : (p.stopExecutor).previous = p.previous := by
  rfl
@[simp] theorem Slot.stopExecutor_counters : (p.stopExecutor).counters = p.counters := by
  rfl

@[simp] theorem Slot.issue_seq : (p.issue).seq = p.seq := by
  unfold Slot.issue
  split <;> (try split) <;> rfl
@[simp] theorem Slot.issue_traffic : (p.issue).traffic = p.traffic := by
  unfold Slot.issue
  split <;> (try split) <;> rfl
@[simp] theorem Slot.issue_deadlines : (p.issue).deadlines = p.deadlines := by
  unfold Slot.issue
  split <;> (try split) <;> rfl
@[simp] theorem Slot.issue_detect : (p.issue).detect = p.detect := by
  unfold Slot.issue
  split <;> (try split) <;> rfl
@[simp] theorem Slot.issue_lines : (p.issue).lines = p.lines := by
  unfold Slot.issue
  split <;> (try split) <;> rfl
@[simp] theorem Slot.issue_script : (p.issue).script = p.script := by
  unfold Slot.issue
  split <;> (try split) <;> rfl
@[simp] theorem Slot.issue_current : (p.issue).current = p.current := by
  unfold Slot.issue
  split <;> (try split) <;> rfl
@[simp] theorem Slot.issue_previous : (p.issue).previous = p.previous := by
  unfold Slot.issue
  split <;> (try split) <;> rfl
@[simp] theorem Slot.issue_counters : (p.issue).counters = p.counters := by
  unfold Slot.issue
  split <;> (try split) <;> rfl

@[simp] theorem Slot.startStep_seq (k : Nat) (st : Step) : (p.startStep k st).seq = p.seq := by
  simp [Slot.startStep]
@[simp] theorem Slot.startStep_traffic (k : Nat) (st : Step) : (p.startStep k st).traffic = p.traffic := by
  simp [Slot.startStep]
@[simp] theorem Slot.startStep_deadlines (k : Nat) (st : Step) : (p.startStep k st).deadlines = p.deadlines := by
  simp [Slot.startStep]
@[simp] theorem Slot.startStep_detect (k : Nat) (st : Step) : (p.startStep k st).detect = p.detect := by
  simp [Slot.startStep]
@[simp] theorem Slot.startStep_lines (k : Nat) (st : Step) : (p.startStep k st).lines = p.lines := by
  simp [Slot.startStep]
@[simp] theorem Slot.startStep_script (k : Nat) (st : Step) : (p.startStep k st).script = p.script := by
  simp [Slot.startStep]
@[simp] theorem Slot.startStep_current (k : Nat) (st : Step) : (p.startStep k st).current = p.current := by
  simp [Slot.startStep]
@[simp] theorem Slot.startStep_previous (k : Nat) (st : Step) : (p.startStep k st).previous = p.previous := by
  simp [Slot.startStep]
@[simp] theorem Slot.startStep_counters (k : Nat) (st : Step) : (p.startStep k st).counters = p.counters := by
  simp [Slot.startStep]

@[simp] theorem Slot.assertReset_seq : (p.assertReset).seq = p.seq := by
  rfl
@[simp] theorem Slot.assertReset_traffic : (p.assertReset).traffic = p.traffic := by
  rfl
@[simp] theorem Slot.assertReset_deadlines : (p.assertReset).deadlines = p.deadlines := by
  rfl
@[simp] theorem Slot.assertReset_detect : (p.assertReset).detect = p.detect := by
  rfl
@[simp] theorem Slot.assertReset_script : (p.assertReset).script = p.script := by
  rfl
@[simp] theorem Slot.assertReset_exec : (p.assertReset).exec = p.exec := by
  rfl
@[simp] theorem Slot.assertReset_current : (p.assertReset).current = p.current := by
  rfl
@[simp] theorem Slot.assertReset_previous : (p.assertReset).previous = p.previous := by
  rfl
@[simp] theorem Slot.assertReset_counters : (p.assertReset).counters = p.counters := by
  rfl

@[simp] theorem Slot.releaseReset_seq : (p.releaseReset).seq = p.seq := by
  rfl
@[simp] theorem Slot.releaseReset_traffic : (p.releaseReset).traffic = p.traffic := by
  rfl
@[simp] theorem Slot.releaseReset_deadlines : (p.releaseReset).deadlines = p.deadlines := by
  rfl
@[simp] theorem Slot.releaseReset_detect : (p.releaseReset).detect = p.detect := by
  rfl
@[simp] theorem Slot.releaseReset_script : (p.releaseReset).script = p.script := by
  rfl
@[simp] theorem Slot.releaseReset_exec : (p.releaseReset).exec = p.exec := by
  rfl
@[simp] theorem Slot.releaseReset_current : (p.releaseReset).current = p.current := by
  rfl
@[simp] theorem Slot.releaseReset_previous : (p.releaseReset).previous = p.previous := by
  rfl
@[simp] theorem Slot.releaseReset_counters : (p.releaseReset).counters = p.counters := by
  rfl

@[simp] theorem Slot.setPower_seq (on : Bool) : (p.setPower on).seq = p.seq := by
  rfl
@[simp] theorem Slot.setPower_traffic (on : Bool) : (p.setPower on).traffic = p.traffic := by
  rfl
@[simp] theorem Slot.setPower_deadlines (on : Bool) : (p.setPower on).deadlines = p.deadlines := by
  rfl
@[simp] theorem Slot.setPower_detect (on : Bool) : (p.setPower on).detect = p.detect := by
  rfl
@[simp] theorem Slot.setPower_script (on : Bool) : (p.setPower on).script = p.script := by
  rfl
@[simp] theorem Slot.setPower_exec (on : Bool) : (p.setPower on).exec = p.exec := by
  rfl
@[simp] theorem Slot.setPower_current (on : Bool) : (p.setPower on).current = p.current := by
  rfl
@[simp] theorem Slot.setPower_previous (on : Bool) : (p.setPower on).previous = p.previous := by
  rfl
@[simp] theorem Slot.setPower_counters (on : Bool) : (p.setPower on).counters = p.counters := by
  rfl

@[simp] theorem Slot.stopSequence_traffic : (p.stopSequence).traffic = p.traffic := by
  simp [Slot.stopSequence]
@[simp] theorem Slot.stopSequence_deadlines : (p.stopSequence).deadlines = p.deadlines := by
  simp [Slot.stopSequence]
@[simp] theorem Slot.stopSequence_detect : (p.stopSequence).detect = p.detect := by
  simp [Slot.stopSequence]
@[simp] theorem Slot.stopSequence_lines : (p.stopSequence).lines = p.lines := by
  simp [Slot.stopSequence]
@[simp] theorem Slot.stopSequence_current : (p.stopSequence).current = p.current := by
  simp [Slot.stopSequence]
@[simp] theorem Slot.stopSequence_previous : (p.stopSequence).previous = p.previous := by
  simp [Slot.stopSequence]
@[simp] theorem Slot.stopSequence_counters : (p.stopSequence).counters = p.counters := by
  simp [Slot.stopSequence]

@[simp] theorem Slot.setState_traffic (st : SlotState) : (p.setState st).traffic = p.traffic := by
  rfl
@[simp] theorem Slot.setState_deadlines (st : SlotState) : (p.setState st).deadlines = p.deadlines := by
  rfl
@[simp] theorem Slot.setState_detect (st : SlotState) : (p.setState st).detect = p.detect := by
  rfl
@[simp] theorem Slot.setState_lines (st : SlotState) : (p.setState st).lines = p.lines := by
  rfl
@[simp] theorem Slot.setState_script (st : SlotState) : (p.setState st).script = p.script := by
  rfl
@[simp] theorem Slot.setState_exec (st : SlotState) : (p.setState st).exec = p.exec := by
  rfl
@[simp] theorem Slot.setState_current (st : SlotState) : (p.setState st).current = p.current := by
  rfl
@[simp] theorem Slot.setState_previous (st : SlotState) : (p.setState st).previous = p.previous := by
  rfl
@[simp] theorem Slot.setState_counters (st : SlotState) : (p.setState st).counters = p.counters := by
  rfl

@[simp] theorem Slot.clearHeld_traffic : (p.clearHeld).traffic = p.traffic := by
  rfl
@[simp] theorem Slot.clearHeld_deadlines : (p.clearHeld).deadlines = p.deadlines := by
  rfl
@[simp] theorem Slot.clearHeld_detect : (p.clearHeld).detect = p.detect := by
  rfl
@[simp] theorem Slot.clearHeld_lines : (p.clearHeld).lines = p.lines := by
  rfl
@[simp] theorem Slot.clearHeld_script : (p.clearHeld).script = p.script := by
  rfl
@[simp] theorem Slot.clearHeld_exec : (p.clearHeld).exec = p.exec := by
  rfl
@[simp] theorem Slot.clearHeld_current : (p.clearHeld).current = p.current := by
  rfl
@[simp] theorem Slot.clearHeld_previous : (p.clearHeld).previous = p.previous := by
  rfl
@[simp] theorem Slot.clearHeld_counters : (p.clearHeld).counters = p.counters := by
  rfl

@[simp] theorem Slot.enterPhase_traffic (ph : Phase) (t : UnitTimer) : (p.enterPhase ph t).traffic = p.traffic := by
  rfl
@[simp] theorem Slot.enterPhase_deadlines (ph : Phase) (t : UnitTimer) : (p.enterPhase ph t).deadlines = p.deadlines := by
  rfl
@[simp] theorem Slot.enterPhase_detect (ph : Phase) (t : UnitTimer) : (p.enterPhase ph t).detect = p.detect := by
  rfl
@[simp] theorem Slot.enterPhase_lines (ph : Phase) (t : UnitTimer) : (p.enterPhase ph t).lines = p.lines := by
  rfl
@[simp] theorem Slot.enterPhase_script (ph : Phase) (t : UnitTimer) : (p.enterPhase ph t).script = p.script := by
  rfl
@[simp] theorem Slot.enterPhase_exec (ph : Phase) (t : UnitTimer) : (p.enterPhase ph t).exec = p.exec := by
  rfl
@[simp] theorem Slot.enterPhase_current (ph : Phase) (t : UnitTimer) : (p.enterPhase ph t).current = p.current := by
  rfl
@[simp] theorem Slot.enterPhase_previous (ph : Phase) (t : UnitTimer) : (p.enterPhase ph t).previous = p.previous := by
  rfl
@[simp] theorem Slot.enterPhase_counters (ph : Phase) (t : UnitTimer) : (p.enterPhase ph t).counters = p.counters := by
  rfl

@[simp] theorem Slot.enterFunctionReset_traffic : (p.enterFunctionReset).traffic = p.traffic := by
  simp [Slot.enterFunctionReset]
@[simp] theorem Slot.enterFunctionReset_deadlines : (p.enterFunctionReset).deadlines = p.deadlines := by
  simp [Slot.enterFunctionReset]
@[simp] theorem Slot.enterFunctionReset_detect : (p.enterFunctionReset).detect = p.detect := by
  simp [Slot.enterFunctionReset]
@[simp] theorem Slot.enterFunctionReset_lines : (p.enterFunctionReset).lines = p.lines := by
  simp [Slot.enterFunctionReset]
@[simp] theorem Slot.enterFunctionReset_script : (p.enterFunctionReset).script = p.script := by
  simp [Slot.enterFunctionReset]
@[simp] theorem Slot.enterFunctionReset_current : (p.enterFunctionReset).current = p.current := by
  simp [Slot.enterFunctionReset]
@[simp] theorem Slot.enterFunctionReset_previous : (p.enterFunctionReset).previous = p.previous := by
  simp [Slot.enterFunctionReset]
@[simp] theorem Slot.enterFunctionReset_counters : (p.enterFunctionReset).counters = p.counters := by
  simp [Slot.enterFunctionReset]

@[simp] theorem Slot.enterResetAssert_deadlines : (p.enterResetAssert).deadlines = p.deadlines := by
  rfl
@[simp] theorem Slot.enterResetAssert_detect : (p.enterResetAssert).detect = p.detect := by
  rfl
@[simp] theorem Slot.enterResetAssert_script : (p.enterResetAssert).script = p.script := by
  rfl
@[simp] theorem Slot.enterResetAssert_exec : (p.enterResetAssert).exec = p.exec := by
  rfl
@[simp] theorem Slot.enterResetAssert_current : (p.enterResetAssert).current = p.current := by
  rfl
@[simp] theorem Slot.enterResetAssert_previous : (p.enterResetAssert).previous = p.previous := by
  rfl
@[simp] theorem Slot.enterResetAssert_counters : (p.enterResetAssert).counters = p.counters := by
  rfl

@[simp] theorem Slot.enterPowerOff_deadlines : (p.enterPowerOff).deadlines = p.deadlines := by
  rfl
@[simp] theorem Slot.enterPowerOff_detect : (p.enterPowerOff).detect = p.detect := by
  rfl
@[simp] theorem Slot.enterPowerOff_script : (p.enterPowerOff).script = p.script := by
  rfl
@[simp] theorem Slot.enterPowerOff_exec : (p.enterPowerOff).exec = p.exec := by
  rfl
@[simp] theorem Slot.enterPowerOff_current : (p.enterPowerOff).current = p.current := by
  rfl
@[simp] theorem Slot.enterPowerOff_previous : (p.enterPowerOff).previous = p.previous := by
  rfl
@[simp] theorem Slot.enterPowerOff_counters : (p.enterPowerOff).counters = p.counters := by
  rfl

@[simp] theorem Slot.startOnSettle_traffic : (p.startOnSettle).traffic = p.traffic := by
  rfl
@[simp] theorem Slot.startOnSettle_deadlines : (p.startOnSettle).deadlines = p.deadlines := by
  rfl
@[simp] theorem Slot.startOnSettle_detect : (p.startOnSettle).detect = p.detect := by
  rfl
@[simp] theorem Slot.startOnSettle_lines : (p.startOnSettle).lines = p.lines := by
  rfl
@[simp] theorem Slot.startOnSettle_script : (p.startOnSettle).script = p.script := by
  rfl
@[simp] theorem Slot.startOnSettle_exec : (p.startOnSettle).exec = p.exec := by
  rfl
@[simp] theorem Slot.startOnSettle_current : (p.startOnSettle).current = p.current := by
  rfl
@[simp] theorem Slot.startOnSettle_previous : (p.startOnSettle).previous = p.previous := by
  rfl
@[simp] theorem Slot.startOnSettle_counters : (p.startOnSettle).counters = p.counters := by
  rfl

@[simp] theorem Slot.enterPowerOn_traffic : (p.enterPowerOn).traffic = p.traffic := by
  simp only [Slot.enterPowerOn]
  split <;> rfl
@[simp] theorem Slot.enterPowerOn_deadlines : (p.enterPowerOn).deadlines = p.deadlines := by
  simp only [Slot.enterPowerOn]
  split <;> rfl
@[simp] theorem Slot.enterPowerOn_detect : (p.enterPowerOn).detect = p.detect := by
  simp only [Slot.enterPowerOn]
  split <;> rfl
@[simp] theorem Slot.enterPowerOn_script : (p.enterPowerOn).script = p.script := by
  simp only [Slot.enterPowerOn]
  split <;> rfl
@[simp] theorem Slot.enterPowerOn_exec : (p.enterPowerOn).exec = p.exec := by
  simp only [Slot.enterPowerOn]
  split <;> rfl
@[simp] theorem Slot.enterPowerOn_current : (p.enterPowerOn).current = p.current := by
  simp only [Slot.enterPowerOn]
  split <;> rfl
@[simp] theorem Slot.enterPowerOn_previous : (p.enterPowerOn).previous = p.previous := by
  simp only [Slot.enterPowerOn]
  split <;> rfl
@[simp] theorem Slot.enterPowerOn_counters : (p.enterPowerOn).counters = p.counters := by
  simp only [Slot.enterPowerOn]
  split <;> rfl

@[simp] theorem Slot.takeSample_traffic : (p.takeSample).traffic = p.traffic := by
  simp [Slot.takeSample]
@[simp] theorem Slot.takeSample_deadlines : (p.takeSample).deadlines = p.deadlines := by
  simp [Slot.takeSample]
@[simp] theorem Slot.takeSample_detect : (p.takeSample).detect = p.detect := by
  simp [Slot.takeSample]
@[simp] theorem Slot.takeSample_lines : (p.takeSample).lines = p.lines := by
  simp [Slot.takeSample]
@[simp] theorem Slot.takeSample_script : (p.takeSample).script = p.script := by
  simp [Slot.takeSample]
@[simp] theorem Slot.takeSample_exec : (p.takeSample).exec = p.exec := by
  simp [Slot.takeSample]
@[simp] theorem Slot.takeSample_previous : (p.takeSample).previous = p.previous := by
  simp [Slot.takeSample]
@[simp] theorem Slot.takeSample_counters : (p.takeSample).counters = p.counters := by
  simp [Slot.takeSample]

@[simp] theorem Slot.raiseHighest_seq (l : Level) : (p.raiseHighest l).seq = p.seq := by
  simp [Slot.raiseHighest]
@[simp] theorem Slot.raiseHighest_traffic (l : Level) : (p.raiseHighest l).traffic = p.traffic := by
  simp [Slot.raiseHighest]
@[simp] theorem Slot.raiseHighest_deadlines (l : Level) : (p.raiseHighest l).deadlines = p.deadlines := by
  simp [Slot.raiseHighest]
@[simp] theorem Slot.raiseHighest_detect (l : Level) : (p.raiseHighest l).detect = p.detect := by
  simp [Slot.raiseHighest]
@[simp] theorem Slot.raiseHighest_lines (l : Level) : (p.raiseHighest l).lines = p.lines := by
  simp [Slot.raiseHighest]
@[simp] theorem Slot.raiseHighest_script (l : Level) : (p.raiseHighest l).script = p.script := by
  simp [Slot.raiseHighest]
@[simp] theorem Slot.raiseHighest_exec (l : Level) : (p.raiseHighest l).exec = p.exec := by
  simp [Slot.raiseHighest]
@[simp] theorem Slot.raiseHighest_previous (l : Level) : (p.raiseHighest l).previous = p.previous := by
  simp [Slot.raiseHighest]
@[simp] theorem Slot.raiseHighest_counters (l : Level) : (p.raiseHighest l).counters = p.counters := by
  simp [Slot.raiseHighest]

@[simp] theorem Slot.beginLevel_traffic (l : Level) : (p.beginLevel l).traffic = p.traffic := by
  simp [Slot.beginLevel]
@[simp] theorem Slot.beginLevel_deadlines (l : Level) : (p.beginLevel l).deadlines = p.deadlines := by
  simp [Slot.beginLevel]
@[simp] theorem Slot.beginLevel_detect (l : Level) : (p.beginLevel l).detect = p.detect := by
  simp [Slot.beginLevel]
@[simp] theorem Slot.beginLevel_lines (l : Level) : (p.beginLevel l).lines = p.lines := by
  simp [Slot.beginLevel]
@[simp] theorem Slot.beginLevel_script (l : Level) : (p.beginLevel l).script = p.script := by
  simp [Slot.beginLevel]
@[simp] theorem Slot.beginLevel_exec (l : Level) : (p.beginLevel l).exec = p.exec := by
  simp [Slot.beginLevel]
@[simp] theorem Slot.beginLevel_previous (l : Level) : (p.beginLevel l).previous = p.previous := by
  simp [Slot.beginLevel]
@[simp] theorem Slot.beginLevel_counters (l : Level) : (p.beginLevel l).counters = p.counters := by
  simp [Slot.beginLevel]

@[simp] theorem Slot.countAttempt_traffic : (p.countAttempt).traffic = p.traffic := by
  unfold Slot.countAttempt
  split <;> simp
@[simp] theorem Slot.countAttempt_deadlines : (p.countAttempt).deadlines = p.deadlines := by
  unfold Slot.countAttempt
  split <;> simp
@[simp] theorem Slot.countAttempt_detect : (p.countAttempt).detect = p.detect := by
  unfold Slot.countAttempt
  split <;> simp
@[simp] theorem Slot.countAttempt_lines : (p.countAttempt).lines = p.lines := by
  unfold Slot.countAttempt
  split <;> simp
@[simp] theorem Slot.countAttempt_script : (p.countAttempt).script = p.script := by
  unfold Slot.countAttempt
  split <;> simp
@[simp] theorem Slot.countAttempt_exec : (p.countAttempt).exec = p.exec := by
  unfold Slot.countAttempt
  split <;> simp
@[simp] theorem Slot.countAttempt_previous : (p.countAttempt).previous = p.previous := by
  unfold Slot.countAttempt
  split <;> simp
@[simp] theorem Slot.countAttempt_counters : (p.countAttempt).counters = p.counters := by
  unfold Slot.countAttempt
  split <;> simp

@[simp] theorem Slot.spendFunction_traffic : (p.spendFunction).traffic = p.traffic := by
  simp [Slot.spendFunction]
@[simp] theorem Slot.spendFunction_deadlines : (p.spendFunction).deadlines = p.deadlines := by
  simp [Slot.spendFunction]
@[simp] theorem Slot.spendFunction_detect : (p.spendFunction).detect = p.detect := by
  simp [Slot.spendFunction]
@[simp] theorem Slot.spendFunction_lines : (p.spendFunction).lines = p.lines := by
  simp [Slot.spendFunction]
@[simp] theorem Slot.spendFunction_script : (p.spendFunction).script = p.script := by
  simp [Slot.spendFunction]
@[simp] theorem Slot.spendFunction_exec : (p.spendFunction).exec = p.exec := by
  simp [Slot.spendFunction]
@[simp] theorem Slot.spendFunction_previous : (p.spendFunction).previous = p.previous := by
  simp [Slot.spendFunction]
@[simp] theorem Slot.spendFunction_counters : (p.spendFunction).counters = p.counters := by
  simp [Slot.spendFunction]

@[simp] theorem Slot.enterProbation_traffic : (p.enterProbation).traffic = p.traffic := by
  simp [Slot.enterProbation]
@[simp] theorem Slot.enterProbation_lines : (p.enterProbation).lines = p.lines := by
  simp [Slot.enterProbation]
@[simp] theorem Slot.enterProbation_current : (p.enterProbation).current = p.current := by
  simp [Slot.enterProbation]
@[simp] theorem Slot.enterProbation_previous : (p.enterProbation).previous = p.previous := by
  simp [Slot.enterProbation]
@[simp] theorem Slot.enterProbation_counters : (p.enterProbation).counters = p.counters := by
  simp [Slot.enterProbation]

@[simp] theorem Slot.abortSequence_deadlines : (p.abortSequence).deadlines = p.deadlines := by
  unfold Slot.abortSequence
  (split <;> (try split)) <;> simp
@[simp] theorem Slot.abortSequence_previous : (p.abortSequence).previous = p.previous := by
  unfold Slot.abortSequence
  (split <;> (try split)) <;> simp

@[simp] theorem Slot.continueIncident_traffic (c : TripCause) (b : Bool) (v : TripView) : (p.continueIncident c b v).traffic = p.traffic := by
  unfold Slot.continueIncident
  split <;> simp
@[simp] theorem Slot.continueIncident_deadlines (c : TripCause) (b : Bool) (v : TripView) : (p.continueIncident c b v).deadlines = p.deadlines := by
  unfold Slot.continueIncident
  split <;> simp
@[simp] theorem Slot.continueIncident_detect (c : TripCause) (b : Bool) (v : TripView) : (p.continueIncident c b v).detect = p.detect := by
  unfold Slot.continueIncident
  split <;> simp
@[simp] theorem Slot.continueIncident_lines (c : TripCause) (b : Bool) (v : TripView) : (p.continueIncident c b v).lines = p.lines := by
  unfold Slot.continueIncident
  split <;> simp
@[simp] theorem Slot.continueIncident_script (c : TripCause) (b : Bool) (v : TripView) : (p.continueIncident c b v).script = p.script := by
  unfold Slot.continueIncident
  split <;> simp
@[simp] theorem Slot.continueIncident_exec (c : TripCause) (b : Bool) (v : TripView) : (p.continueIncident c b v).exec = p.exec := by
  unfold Slot.continueIncident
  split <;> simp
@[simp] theorem Slot.continueIncident_previous (c : TripCause) (b : Bool) (v : TripView) : (p.continueIncident c b v).previous = p.previous := by
  unfold Slot.continueIncident
  split <;> simp
@[simp] theorem Slot.continueIncident_counters (c : TripCause) (b : Bool) (v : TripView) : (p.continueIncident c b v).counters = p.counters := by
  unfold Slot.continueIncident
  split <;> simp

@[simp] theorem Slot.depart_seq (tx : Transaction) : (p.depart tx).seq = p.seq := by
  rfl
@[simp] theorem Slot.depart_deadlines (tx : Transaction) : (p.depart tx).deadlines = p.deadlines := by
  rfl
@[simp] theorem Slot.depart_lines (tx : Transaction) : (p.depart tx).lines = p.lines := by
  rfl
@[simp] theorem Slot.depart_script (tx : Transaction) : (p.depart tx).script = p.script := by
  rfl
@[simp] theorem Slot.depart_exec (tx : Transaction) : (p.depart tx).exec = p.exec := by
  rfl
@[simp] theorem Slot.depart_current (tx : Transaction) : (p.depart tx).current = p.current := by
  rfl
@[simp] theorem Slot.depart_previous (tx : Transaction) : (p.depart tx).previous = p.previous := by
  rfl

@[simp] theorem Slot.admitEntry_seq (now : Ticks) (tx : Transaction) : (p.admitEntry now tx).seq = p.seq := by
  unfold Slot.admitEntry
  split <;> simp
@[simp] theorem Slot.admitEntry_deadlines (now : Ticks) (tx : Transaction) : (p.admitEntry now tx).deadlines = p.deadlines := by
  unfold Slot.admitEntry
  split <;> simp
@[simp] theorem Slot.admitEntry_lines (now : Ticks) (tx : Transaction) : (p.admitEntry now tx).lines = p.lines := by
  unfold Slot.admitEntry
  split <;> simp
@[simp] theorem Slot.admitEntry_script (now : Ticks) (tx : Transaction) : (p.admitEntry now tx).script = p.script := by
  unfold Slot.admitEntry
  split <;> simp
@[simp] theorem Slot.admitEntry_exec (now : Ticks) (tx : Transaction) : (p.admitEntry now tx).exec = p.exec := by
  unfold Slot.admitEntry
  split <;> simp
@[simp] theorem Slot.admitEntry_current (now : Ticks) (tx : Transaction) : (p.admitEntry now tx).current = p.current := by
  unfold Slot.admitEntry
  split <;> simp
@[simp] theorem Slot.admitEntry_previous (now : Ticks) (tx : Transaction) : (p.admitEntry now tx).previous = p.previous := by
  unfold Slot.admitEntry
  split <;> simp

@[simp] theorem Slot.reconsider_seq (now : Ticks) (b : Bool) : (p.reconsider now b).seq = p.seq := by
  unfold Slot.reconsider
  split <;> (try split) <;> simp
@[simp] theorem Slot.reconsider_deadlines (now : Ticks) (b : Bool) : (p.reconsider now b).deadlines = p.deadlines := by
  unfold Slot.reconsider
  split <;> (try split) <;> simp
@[simp] theorem Slot.reconsider_lines (now : Ticks) (b : Bool) : (p.reconsider now b).lines = p.lines := by
  unfold Slot.reconsider
  split <;> (try split) <;> simp
@[simp] theorem Slot.reconsider_script (now : Ticks) (b : Bool) : (p.reconsider now b).script = p.script := by
  unfold Slot.reconsider
  split <;> (try split) <;> simp
@[simp] theorem Slot.reconsider_exec (now : Ticks) (b : Bool) : (p.reconsider now b).exec = p.exec := by
  unfold Slot.reconsider
  split <;> (try split) <;> simp
@[simp] theorem Slot.reconsider_current (now : Ticks) (b : Bool) : (p.reconsider now b).current = p.current := by
  unfold Slot.reconsider
  split <;> (try split) <;> simp
@[simp] theorem Slot.reconsider_previous (now : Ticks) (b : Bool) : (p.reconsider now b).previous = p.previous := by
  unfold Slot.reconsider
  split <;> (try split) <;> simp


/-! ### What the touched records hold -/

@[simp] theorem Slot.notePending_pending (f : Incident → Incident) (h : p.current.outcome = .pending) :
    (p.notePending f).current = f p.current := by simp [Slot.notePending, h]

@[simp] theorem Slot.notePending_closed (f : Incident → Incident) (h : p.current.outcome ≠ .pending) :
    p.notePending f = p := by simp [Slot.notePending, h]

@[simp] theorem Slot.setState_seq (st : SlotState) : (p.setState st).seq = { p.seq with state := st, level := none } := rfl
@[simp] theorem Slot.clearHeld_seq : p.clearHeld.seq = { p.seq with held := false } := rfl
@[simp] theorem Slot.assertReset_lines : p.assertReset.lines = { p.lines with slotReset := true } := rfl
@[simp] theorem Slot.releaseReset_lines : p.releaseReset.lines = { p.lines with slotReset := false } := rfl
@[simp] theorem Slot.setPower_lines (on : Bool) :
    (p.setPower on).lines = { p.lines with powerEnable := on && p.lines.powerControl } := rfl
@[simp] theorem Slot.enterPhase_seq (ph : Phase) (t : UnitTimer) :
    (p.enterPhase ph t).seq =
      { p.seq with phase := some ph, phaseTimer := t, reissueTimer := none, pwrgdSeen := false } := rfl
@[simp] theorem Slot.stopSequence_seq :
    p.stopSequence.seq =
      { p.seq with
        phase := none, drainTimer := none, phaseTimer := none, reissueTimer := none, probationTimer := none,
        pwrgdSeen := false } := by simp [Slot.stopSequence]
@[simp] theorem Slot.setAttempts_seq (a : PerLevel) : (p.setAttempts a).seq = { p.seq with attempts := a } := by
  simp [Slot.setAttempts]

/-- The executor after a stop: nothing in flight, no timer, no step, the next tag as it stood (R153). -/
@[simp] theorem Slot.stopExecutor_exec :
    p.stopExecutor.exec =
      { p.exec with
        inFlight := none, withheld := false, step := none, stepTimer := none, reissueTimer := none,
        intervalTimer := none, limitTimer := none, pauseTimer := none } := rfl

@[simp] theorem Slot.stopSequence_exec :
    p.stopSequence.exec =
      { p.exec with
        inFlight := none, withheld := false, step := none, stepTimer := none, reissueTimer := none,
        intervalTimer := none, limitTimer := none, pauseTimer := none } := by
  simp [Slot.stopSequence]

/-- Issuing keeps everything of the executor but the access, the withheld mark and the tag. -/
theorem Slot.issue_spec :
    p.issue = p ∨ p.issue = { p with exec := { p.exec with withheld := true } } ∨
      ∃ a, p.phaseAccess = some a ∧ p.seq.held = false ∧
        p.issue = { p with exec := { p.exec with
          inFlight := some { tag := p.exec.nextTag, request := a, onLink := false }
          withheld := false
          nextTag := p.exec.nextTag + 1 } } := by
  unfold Slot.issue
  split
  · exact .inl rfl
  · split
    · exact .inr (.inl rfl)
    · rename_i a ha hh
      exact .inr (.inr ⟨a, ha, by simpa using hh, rfl⟩)

/-- What a phase or step asks of the executor exists in FUNCTION_RESET and RESTORING alone (R147, R148). -/
theorem Slot.phaseAccess_phase {a : AccessRequest} (h : p.phaseAccess = some a) : executorPhase p.seq.phase = true := by
  unfold Slot.phaseAccess at h
  split at h <;> simp_all [executorPhase]

/-! ### Entries of the ORT -/

@[simp] theorem Entry.fence_number (e : Entry) : e.fence.number = e.number := by unfold Entry.fence; split <;> rfl
@[simp] theorem Entry.fence_requester (e : Entry) : e.fence.requester = e.requester := by unfold Entry.fence; split <;> rfl
@[simp] theorem Entry.fence_tag (e : Entry) : e.fence.tag = e.tag := by unfold Entry.fence; split <;> rfl
@[simp] theorem Entry.forgetKey_number (e : Entry) : e.forgetKey.number = e.number := by
  unfold Entry.forgetKey; split <;> rfl
@[simp] theorem Entry.forgetKey_requester (e : Entry) : e.forgetKey.requester = e.requester := by
  unfold Entry.forgetKey; split <;> rfl
@[simp] theorem Entry.forgetKey_tag (e : Entry) : e.forgetKey.tag = e.tag := by unfold Entry.forgetKey; split <;> rfl
@[simp] theorem Entry.forgetKey_state (e : Entry) : e.forgetKey.state = e.state := by
  unfold Entry.forgetKey; split <;> rfl

/-- After fence-all no entry is LIVE (R40). -/
@[simp] theorem Slot.fenceAll_liveCount : p.fenceAll.liveCount = 0 := by
  simp only [Slot.liveCount, Machine.liveCount, Slot.fenceAll, List.countP_map, List.countP_eq_zero, Function.comp]
  intro e _
  unfold Entry.fence
  split <;> simp_all [Entry.isLive]

end Sys2Proof.Machine
end

