-- ==== Sys2Proof/Laws/Quiet.lean ====
section
/-! SUPPORT. The frame of the sequencer's operations: they change slots, rails, the sequence counter, the notice and what
the Management Function presents, and nothing else of the part. -/

namespace Sys2Proof.Machine

/-- `t` differs from `s` at most in slots, rails, the sequence counter, the notices and the presentation. -/
def State.Quiet (s t : State) : Prop :=
  t = { s with
    slots := t.slots, railA := t.railA, railB := t.railB, sequence := t.sequence, notices := t.notices,
    presenting := t.presenting }

namespace State.Quiet

variable {s t u : State}

theorem pending (h : s.Quiet t) : t.pending = s.pending := by rw [h]
theorem head (h : s.Quiet t) : t.head = s.head := by rw [h]
theorem trunkUp (h : s.Quiet t) : t.trunkUp = s.trunkUp := by rw [h]
theorem windowStaging (h : s.Quiet t) : t.windowStaging = s.windowStaging := by rw [h]
theorem windowActive (h : s.Quiet t) : t.windowActive = s.windowActive := by rw [h]
theorem slotBus (h : s.Quiet t) : t.slotBus = s.slotBus := by rw [h]
theorem saq (h : s.Quiet t) : t.saq = s.saq := by rw [h]
theorem lastServed (h : s.Quiet t) : t.lastServed = s.lastServed := by rw [h]
theorem time (h : s.Quiet t) : t.time = s.time := by rw [h]
theorem health (h : s.Quiet t) : t.health = s.health := by rw [h]
theorem kill (h : s.Quiet t) : t.kill = s.kill := by rw [h]
theorem waitingAnswer (h : s.Quiet t) : t.waitingAnswer = s.waitingAnswer := by rw [h]
theorem mailbox (h : s.Quiet t) : t.mailbox = s.mailbox := by rw [h]
theorem resetScope (h : s.Quiet t) : t.resetScope = s.resetScope := by rw [h]
theorem counters (h : s.Quiet t) : t.counters = s.counters := by rw [h]
theorem trunkSent (h : s.Quiet t) : t.trunkSent = s.trunkSent := by rw [h]
theorem freeIndex (h : s.Quiet t) : t.freeIndex = s.freeIndex := by rw [h]

theorem refl (s : State) : s.Quiet s := rfl

theorem of_fields (h0 : t.pending = s.pending) (h1 : t.head = s.head) (h2 : t.trunkUp = s.trunkUp) (h3 : t.windowStaging = s.windowStaging) (h4 : t.windowActive = s.windowActive) (h5 : t.slotBus = s.slotBus) (h6 : t.saq = s.saq) (h7 : t.lastServed = s.lastServed) (h8 : t.time = s.time) (h9 : t.health = s.health) (h10 : t.kill = s.kill) (h11 : t.waitingAnswer = s.waitingAnswer) (h12 : t.mailbox = s.mailbox) (h13 : t.resetScope = s.resetScope) (h14 : t.counters = s.counters) (h15 : t.trunkSent = s.trunkSent) (h16 : t.freeIndex = s.freeIndex) : s.Quiet t := by
  cases s
  cases t
  simp only [State.Quiet] at *
  subst_vars
  rfl

theorem trans (h : s.Quiet t) (k : t.Quiet u) : s.Quiet u :=
  of_fields (k.pending.trans h.pending) (k.head.trans h.head) (k.trunkUp.trans h.trunkUp) (k.windowStaging.trans h.windowStaging) (k.windowActive.trans h.windowActive) (k.slotBus.trans h.slotBus) (k.saq.trans h.saq) (k.lastServed.trans h.lastServed) (k.time.trans h.time) (k.health.trans h.health) (k.kill.trans h.kill) (k.waitingAnswer.trans h.waitingAnswer) (k.mailbox.trans h.mailbox) (k.resetScope.trans h.resetScope) (k.counters.trans h.counters) (k.trunkSent.trans h.trunkSent) (k.freeIndex.trans h.freeIndex)

end State.Quiet

variable (s : State) (i : SlotId)

theorem State.modSlot_quiet (f : Slot → Slot) : s.Quiet (s.modSlot i f) := rfl

theorem State.setRail_quiet (r : RailId) (v : Rail) : s.Quiet (s.setRail r v) := by cases r <;> rfl

theorem State.raiseSlot_quiet : s.Quiet (s.raiseSlot i) := by
  exact .of_fields (by simp) (by simp) (by simp) (by simp) (by simp) (by simp) (by simp) (by simp) (by simp) (by simp) (by simp) (by simp) (by simp) (by simp) (by simp) (by simp) (by simp)

theorem State.openIncident_quiet (kd : IncidentKind) (fc : FirstCause) (fu : CauseSet) (ts : TripState) (vw : TripView) : s.Quiet (s.openIncident i kd fc fu ts vw) := by
  exact .of_fields (by simp) (by simp) (by simp) (by simp) (by simp) (by simp) (by simp) (by simp) (by simp) (by simp) (by simp) (by simp) (by simp) (by simp) (by simp) (by simp) (by simp)

theorem State.closeIncident_quiet (oc : IncidentOutcome) : s.Quiet (s.closeIncident i oc) := by
  exact .of_fields (by simp) (by simp) (by simp) (by simp) (by simp) (by simp) (by simp) (by simp) (by simp) (by simp) (by simp) (by simp) (by simp) (by simp) (by simp) (by simp) (by simp)

theorem State.enterRailWait_quiet : s.Quiet (s.enterRailWait i) := by
  simp only [State.enterRailWait]
  split
  · exact (s.modSlot_quiet i _).trans ((State.setRail_quiet _ _ _).trans (State.modSlot_quiet _ i _))
  · exact (s.modSlot_quiet i _).trans (State.setRail_quiet _ _ _)

theorem State.releaseRail_quiet : s.Quiet (s.releaseRail i) := by
  simp only [State.releaseRail]
  split
  · split
    · exact (State.setRail_quiet _ _ _).trans (State.modSlot_quiet _ _ _)
    · exact State.setRail_quiet _ _ _
  · split
    · exact State.setRail_quiet _ _ _
    · exact .refl s

theorem State.goOnline_quiet : s.Quiet (s.goOnline i) := by
  unfold State.goOnline
  exact (s.modSlot_quiet i _).trans (State.closeIncident_quiet _ i _)

theorem State.enterProbation_quiet : s.Quiet (s.enterProbation i) := by
  simp only [State.enterProbation]
  split
  · exact (s.modSlot_quiet i _).trans (State.goOnline_quiet _ i)
  · exact s.modSlot_quiet i _

theorem State.enterRestoring_quiet : s.Quiet (s.enterRestoring i) := by
  simp only [State.enterRestoring]
  split
  · exact (s.modSlot_quiet i _).trans (State.modSlot_quiet _ i _)
  · exact (s.modSlot_quiet i _).trans (State.enterProbation_quiet _ i)

theorem State.settleDone_quiet : s.Quiet (s.settleDone i) := by
  unfold State.settleDone
  split
  · exact s.enterRestoring_quiet i
  · exact s.enterProbation_quiet i

theorem State.enterSettle_quiet : s.Quiet (s.enterSettle i) := by
  simp only [State.enterSettle]
  split
  · exact (s.modSlot_quiet i _).trans (State.settleDone_quiet _ i)
  · exact s.modSlot_quiet i _

theorem State.enterResetRelease_quiet : s.Quiet (s.enterResetRelease i) := by
  simp only [State.enterResetRelease]
  split
  · exact (s.modSlot_quiet i _).trans (State.enterSettle_quiet _ i)
  · exact s.modSlot_quiet i _

theorem State.passStep_quiet : s.Quiet (s.passStep i) := by
  unfold State.passStep
  split
  · exact .refl s
  · split
    · exact s.modSlot_quiet i _
    · exact s.enterProbation_quiet i

theorem State.retire_quiet (a : RetireAction) : s.Quiet (s.retire i a) := by
  unfold State.retire
  exact (s.modSlot_quiet i _).trans ((State.releaseRail_quiet _ i).trans (State.closeIncident_quiet _ i _))

theorem State.failAdmission_quiet : s.Quiet (s.failAdmission i) := by
  unfold State.failAdmission
  exact (s.modSlot_quiet i _).trans ((State.releaseRail_quiet _ i).trans (State.closeIncident_quiet _ i _))

theorem State.enterFirstPhase_quiet (l : Level) : s.Quiet (s.enterFirstPhase i l) := by
  cases l
  · exact s.modSlot_quiet i _
  · exact s.modSlot_quiet i _
  · exact s.enterRailWait_quiet i

theorem State.beginAttempt_quiet (l : Level) (b : Bool) : s.Quiet (s.beginAttempt i l b) := by
  unfold State.beginAttempt
  exact (s.modSlot_quiet i _).trans (State.enterFirstPhase_quiet _ i l)

theorem State.climb_quiet (b : Bool) : s.Quiet (s.climb i b) := by
  unfold State.climb
  split
  · exact s.retire_quiet i _
  · split
    · exact s.beginAttempt_quiet i _ _
    · dsimp only
      split
      · exact (s.modSlot_quiet i _).trans (State.retire_quiet _ i _)
      · exact (s.modSlot_quiet i _).trans (State.beginAttempt_quiet _ i _ _)
  · exact s.beginAttempt_quiet i _ _

theorem State.startRecovery_quiet : s.Quiet (s.startRecovery i) := by
  unfold State.startRecovery
  exact (s.modSlot_quiet i _).trans (State.climb_quiet _ i _)

theorem State.failAttempt_quiet : s.Quiet (s.failAttempt i) := by
  unfold State.failAttempt
  split
  · exact s.failAdmission_quiet i
  · exact (s.modSlot_quiet i _).trans ((State.releaseRail_quiet _ i).trans (State.climb_quiet _ i _))

theorem State.beginAdmission_quiet : s.Quiet (s.beginAdmission i) := by
  unfold State.beginAdmission
  exact s.beginAttempt_quiet i _ _

theorem State.endDraining_quiet : s.Quiet (s.endDraining i) := by
  simp only [State.endDraining]
  split
  · exact (s.modSlot_quiet i _).trans (State.failAdmission_quiet _ i)
  · split
    · exact (s.modSlot_quiet i _).trans ((State.modSlot_quiet _ i _).trans (State.startRecovery_quiet _ i))
    · exact (s.modSlot_quiet i _).trans ((State.modSlot_quiet _ i _).trans (State.modSlot_quiet _ i _))

theorem State.drainIfIdle_quiet : s.Quiet (s.drainIfIdle i) := by
  unfold State.drainIfIdle
  split
  · exact s.endDraining_quiet i
  · exact .refl s

theorem State.enterDraining_quiet : s.Quiet (s.enterDraining i) := by
  simp only [State.enterDraining]
  split
  · exact (s.modSlot_quiet i _).trans (State.endDraining_quiet _ i)
  · exact s.modSlot_quiet i _

theorem State.trip_quiet (c : TripCause) (b : Bool) (v : TripView) : s.Quiet (s.trip i c b v) := by
  unfold State.trip
  cases (s.slot i).seq.state
  · exact .refl s
  · exact .refl s
  · exact (s.openIncident_quiet i _ _ _ _ _).trans ((State.modSlot_quiet _ i _).trans (State.enterDraining_quiet _ i))
  · exact .refl s
  · exact .refl s
  · exact .refl s
  · exact (s.modSlot_quiet i _).trans (State.enterDraining_quiet _ i)
  · exact .refl s

theorem State.tripNow_quiet (c : TripCause) : s.Quiet (s.tripNow i c) := by
  unfold State.tripNow
  exact s.trip_quiet i c _ _

theorem State.abort_quiet : s.Quiet (s.abort i) := by
  unfold State.abort
  exact (s.modSlot_quiet i _).trans (State.releaseRail_quiet _ i)

theorem State.takeKill_quiet : s.Quiet (s.takeKill i) := by
  unfold State.takeKill
  cases (s.slot i).seq.state
  · exact .refl s
  · exact .refl s
  · exact s.tripNow_quiet i _
  · exact (s.modSlot_quiet i _).trans (State.abort_quiet _ i)
  · exact s.modSlot_quiet i _
  · exact (s.modSlot_quiet i _).trans (State.abort_quiet _ i)
  · exact s.tripNow_quiet i _
  · exact .refl s

theorem State.admitSlot_quiet : s.Quiet (s.admitSlot i) := by
  unfold State.admitSlot
  exact (s.modSlot_quiet i _).trans ((State.openIncident_quiet _ i _ _ _ _ _).trans (State.beginAdmission_quiet _ i))

theorem State.recoverSlot_quiet : s.Quiet (s.recoverSlot i) := by
  unfold State.recoverSlot
  split
  · exact s.startRecovery_quiet i
  · exact (s.modSlot_quiet i _).trans (State.beginAdmission_quiet _ i)

theorem State.releaseSlot_quiet : s.Quiet (s.releaseSlot i) := by
  unfold State.releaseSlot
  exact (s.modSlot_quiet i _).trans (State.closeIncident_quiet _ i _)

end Sys2Proof.Machine
end

