-- ==== Sys2Proof/WellFormed.lean ====
section
/-! DEFINITION. What the ranges of R1 and R2 demand of a command's operands. A command that is not well formed
names no event of the part; its meaning is still defined, so that every claim can be stated without a premise
on it where it needs none. -/

namespace Sys2Proof

/-- A byte offset is dword aligned, 0 to 4092 (R1). -/
def Offset.aligned (o : Offset) : Bool := o.toNat % 4 == 0

/-- The ranges of R1 and R2: a memory request is 1 to 256 dwords long and a write carries that many; an offset
is dword aligned; an answer carries as many bytes as its data byte count says, and none unless its status is OK. -/
def Transaction.wellFormed : Transaction → Bool
  | .memRead _ _ _ len => 1 ≤ len && len ≤ 256
  | .memWrite _ _ len data => 1 ≤ len && len ≤ 256 && data.length == len
  | .cfgRead _ _ _ off => Offset.aligned off
  | .cfgWrite _ _ _ off _ _ => Offset.aligned off
  | .message _ _ => true
  | .answer _ _ st _ cnt data => data.length == cnt && (st == .ok || cnt == 0)

/-- An order of the four slots names each of them once. -/
def slotOrderWellFormed (order : List SlotId) : Bool :=
  order.length == 4 && SlotId.all.all (fun i => order.contains i)

/-- The operands of a command lie in their ranges. -/
def Instr.wellFormed : Instr → Bool
  | .trunkReset order => slotOrderWellFormed order
  | .killAssert order => slotOrderWellFormed order
  | .ingressClassify tx => tx.wellFormed
  | .slotLinkReceive _ tx => tx.wellFormed
  | .expiry _ n => decide (n < 32)
  | .powerOnReset _ => true
  | .ingressTake => true
  | .configSpaceWrite => true
  | .goLost => true
  | .unknownCommand => true
  | .sendQueueDeparture _ => true
  | .duplicateKeyDisposal _ => true
  | .containmentQueueAnswer _ => true
  | .receiveQueueTake _ _ => true
  | .egressGrant _ => true
  | .fencedEntryAnswer _ => true
  | .stallTrip _ => true
  | .healthVisit => true
  | .correctedLinkError _ => true
  | .linkLoss _ => true
  | .linkUp _ => true
  | .powerLoss _ => true
  | .powerRise _ => true
  | .killDeassert => true
  | .removal _ => true
  | .insertion _ => true
  | .drainTimerRunsOut _ => true
  | .executorAccessSend _ => true
  | .functionResetTimerRunsOut _ => true
  | .functionResetReissue _ => true
  | .resetAssertTimerRunsOut _ => true
  | .linkWaitTimerRunsOut _ => true
  | .settleTimerRunsOut _ => true
  | .powerOffTimerRunsOut _ => true
  | .pwrgdLimitRunsOut _ => true
  | .onSettleRunsOut _ => true
  | .stepTimerRunsOut _ => true
  | .stepReissue _ => true
  | .pollIntervalRunsOut _ => true
  | .pollLimitRunsOut _ => true
  | .pauseRunsOut _ => true
  | .probationTimerRunsOut _ => true
  | .setWindow => true
  | .commitWindows => true
  | .setSlotBus => true
  | .setPlan => true
  | .setLimits => true
  | .setMonitor => true
  | .setVisit => true
  | .setTimebase => true
  | .loadStep => true
  | .setScriptLength => true
  | .commitScript => true
  | .capture => true
  | .admitSlot => true
  | .isolate => true
  | .recover => true
  | .hold => true
  | .resume => true
  | .abort => true
  | .retire => true
  | .release => true
  | .querySlot => true
  | .readIncident => true
  | .readCounters => true
  | .setNotice => true
  | .ackNotices => true
  | .resetPart => true
  | .resetPartEnd => true
  | .trunkUp => true
  | .tickEnd => true

end Sys2Proof
end

