-- ==== Sys2Proof/Tests/Slice0.lean ====
section
/-! SUPPORT. The model's own tests: the checks of WellFormed refuse ill-formed commands, states and operands that meet the
hypotheses of every obligation, one event each, and the worked cases of the manual. Expected values come from the manual. -/

namespace Sys2Proof.Tests

open Sys2Proof.Machine

/-! ### Helpers: small states -/

/-- What a next state satisfies; false of a stop. -/
def gives (o : Host.Outcome State Fault Refusal) (f : State → Bool) : Bool :=
  match o with
  | .next t => f t
  | .fault _ => false
  | .refused _ => false

/-- Cards in all four slots, power control and supply everywhere. -/
def base : State :=
  State.powerOn
    { straps := PerSlot.all true, present := PerSlot.all true, pwrgd := PerSlot.all true, kill := false, trunkUp := true }

/-- A slot whose card is up: power on, out of reset, link up. -/
def up : Slot :=
  { Slot.powerOn true true true with
    lines := { slotReset := false, powerEnable := true, powerControl := true, pwrgd := true, present := true, linkUp := true } }

/-- The same, ONLINE. -/
def online : Slot := { up with seq := { up.seq with state := .online } }

/-- An ORT entry with its own key: a MEMORY READ of four dwords. -/
def entry (n : Nat) (st : EntryState) : Entry :=
  { number := n, requester := 0x0108, tag := BitVec.ofNat 8 n, request := .memRead 0x1000 4, issueTime := 0, deadline := 40000,
    remaining := 16, keepKey := true, state := st }

/-- A MEMORY READ with a tag of its own. -/
def read (t : Tag) : Transaction := .memRead 0x0108 t 0x1000 4

/-- A MEMORY WRITE of one dword. -/
def write : Transaction := .memWrite 0x0108 0x1000 1 [0]

/-- A card's answer that gives everything owed to `entry n`. -/
def final (n : Nat) : Transaction := .answer 0x0108 (BitVec.ofNat 8 n) .ok 16 16 (List.replicate 16 0)

/-- A PENDING record. -/
def pendingRecord (k : IncidentKind) (c : FirstCause) : Incident :=
  { Incident.empty with sequence := 1, kind := k, firstCause := c, outcome := .pending }

/-- A card that is up, in a state, a phase and a level of a FAULT's recovery. -/
def recovering (st : SlotState) (ph : Option Phase) (l : Option Level) (phaseTimer : UnitTimer) : Slot :=
  { up with
    seq := { up.seq with state := st, phase := ph, level := l, phaseTimer := phaseTimer }
    current := pendingRecord .fault (.trip .stall) }

/-- A GO that carries a command stands at the ingress head. -/
def go (code slot : Nat) (params : List Nat) (s : State) : State :=
  let p := fun k => BitVec.ofNat 32 (params.getD k 0)
  { s with
    head := some { tx := .cfgWrite 0x0100 7 7 0x180 0xF 1, dest := .management }
    mailbox := { s.mailbox with
      command := BitVec.ofNat 32 (code + 256 * slot)
      params := #v[p 0, p 1, p 2, p 3, p 4, p 5, p 6, p 7] } }

/-- A statement about the four slots, slot by slot. -/
theorem forall_slot {p : SlotId → Prop} (h0 : p .s0) (h1 : p .s1) (h2 : p .s2) (h3 : p .s3) : ∀ i, p i
  | .s0 => h0
  | .s1 => h1
  | .s2 => h2
  | .s3 => h3

/-- A GO of `go` is ready where the mailbox is not BUSY and no answer waits. -/
theorem go_ready (s : State) (code slot : Nat) (params : List Nat) (hc : code < 256) (hw : s.waitingAnswer = none)
    (hb : s.mailbox.state ≠ .busy) : (go code slot params s).GoReady 0x0100 7 code :=
  ⟨⟨7, 0xF, 1, rfl, by decide⟩, hw, hb, by simp only [go, BitVec.toNat_ofNat]; omega⟩

/-- A GO of `go` names its slot. -/
theorem go_names (s : State) (code : Nat) (i : SlotId) (params : List Nat) (hc : code < 256) :
    (go code i.toNat params s).NamesSlot i := by
  cases i <;> simp only [State.NamesSlot, go, SlotId.toNat, BitVec.toNat_ofNat] <;> omega

/-! ### WellFormed refuses what R1 and R2 do not allow -/

theorem test_wf_read_empty : (Instr.ingressClassify (.memRead 0x0100 1 0 0)).wellFormed = false := by decide
theorem test_wf_read_long : (Instr.ingressClassify (.memRead 0x0100 1 0 257)).wellFormed = false := by decide
theorem test_wf_read_longest : (Instr.ingressClassify (.memRead 0x0100 1 0 256)).wellFormed = true := by decide
theorem test_wf_write_data : (Instr.ingressClassify (.memWrite 0x0100 0 2 [0])).wellFormed = false := by decide
theorem test_wf_write_empty : (Instr.slotLinkReceive .s0 (.memWrite 0x0100 0 0 [])).wellFormed = false := by decide
theorem test_wf_config_read_unaligned : (Instr.ingressClassify (.cfgRead 0x0100 1 7 0x102)).wellFormed = false := by decide
theorem test_wf_config_write_unaligned :
    (Instr.ingressClassify (.cfgWrite 0x0100 1 7 0x101 0xF 0)).wellFormed = false := by decide
theorem test_wf_answer_count : (Instr.slotLinkReceive .s0 (.answer 0x0100 1 .ok 4 4 [0, 0])).wellFormed = false := by decide
theorem test_wf_answer_abort_data :
    (Instr.slotLinkReceive .s0 (.answer 0x0100 1 .abort 4 1 [0])).wellFormed = false := by decide
theorem test_wf_order_short : (Instr.trunkReset [.s0, .s1, .s2]).wellFormed = false := by decide
theorem test_wf_order_twice : (Instr.killAssert [.s0, .s1, .s2, .s2]).wellFormed = false := by decide
theorem test_wf_entry : (Instr.expiry .s0 32).wellFormed = false := by decide
theorem test_wf_entry_last : (Instr.expiry .s0 31).wellFormed = true := by decide

/-! ### The machine as a whole: hypotheses of O1, O5 to O13 -/

theorem test_hyps_StepTakesFrontCommand :
    ({ base with pending := [.tickEnd, .trunkUp] } : State).pending = .tickEnd :: [.trunkUp] ∧
    gives (step { base with pending := [.tickEnd, .trunkUp] }) (fun t => t.pending == [.trunkUp] && t.time.now == 1) := by
  decide

/-- What a slot of the sound states below meets, each by evaluation. -/
abbrev SlotGood (s : State) (i : SlotId) : Prop :=
  (s.slot i).Bounded ∧ (s.slot i).OrtDistinct ∧ (∀ e ∈ (s.slot i).traffic.ort, e.state ≠ .answering) ∧
  (∀ tx ∈ (s.slot i).traffic.sendQueue, nonPosted tx = true) ∧ (s.slot i).Shaped ∧ s.GrantOk i ∧ (s.slot i).Lined ∧
  (s.slot i).LiveFits ∧ (s.slot i).Recorded ∧ (s.slot i).seq.attempts = PerLevel.all 0 ∧
  (s.slot i).seq.plan = Plan.default ∧ (s.slot i).seq.sample = Plan.default ∧
  (s.slot i).deadlines = DeadlineUnit.default ∧ (s.slot i).detect = Detection.default ∧
  (s.slot i).counters = SlotCounters.zero ∧ (s.slot i).current.InRange ∧ (s.slot i).previous.InRange

theorem default_plan_usable (p : Slot) : p.PlanUsable Plan.default := by
  refine ⟨⟨?_, ?_, by decide⟩, ?_, ?_⟩
  · intro l; cases l <;> decide
  · intro w h; cases h
  · rfl
  · intro h; cases h

theorem sound_of {s : State} (slots : ∀ i, SlotGood s i) (rails : ∀ r, s.RailOk r) (hq : s.saq.length ≤ 64)
    (ho : ∀ it ∈ s.saq, it.owner = none) (hh : s.head = none) (hk : s.kill = false) (hp : s.Presents) (hb : s.BusyFits)
    (hr : s.counters.InRange ∧ 9 ≤ s.time.prescale ∧ s.time.prescale ≤ 65535 ∧ 16 ≤ s.health.visit ∧ s.health.visit ≤ 4095 ∧
      s.health.visitTimer ≤ 4095) : s.Sound where
  bounded := ⟨hq, fun i => (slots i).1⟩
  distinct := fun i => (slots i).2.1
  owners := fun i n => by
    have h1 : s.itemsOf i n = [] := by
      rw [State.itemsOf, List.filter_eq_nil_iff]
      intro it hit
      simp [ho it hit]
    have h2 : s.answering i n = [] := by
      rw [State.answering, List.filter_eq_nil_iff]
      intro e he
      simp [(slots i).2.2.1 e he]
    rw [h1, h2]
    rfl
  head := fun h hs => by rw [hh] at hs; cases hs
  noPosted := fun i _ tx htx => (slots i).2.2.2.1 tx (List.mem_of_mem_head? htx)
  sequenced := ⟨fun i => (slots i).2.2.2.2.1, rails, fun i => (slots i).2.2.2.2.2.1⟩
  lined := fun i => (slots i).2.2.2.2.2.2.1
  killed := fun h => by rw [hk] at h; cases h
  live := fun i => (slots i).2.2.2.2.2.2.2.1
  sample := fun i => by
    obtain ⟨ha, hpl, hs, -⟩ := (slots i).2.2.2.2.2.2.2.2.2
    rw [Slot.WithinSample, ha, hs]
    exact ⟨fun l => by cases l <;> decide, fun l _ _ => by cases l <;> decide⟩
  recorded := fun i => (slots i).2.2.2.2.2.2.2.2.1
  presents := hp
  busy := hb
  inRange := by
    refine ⟨fun i => ?_, hr⟩
    obtain ⟨ha, hpl, hs, hd, ht, hc, hi, hj⟩ := (slots i).2.2.2.2.2.2.2.2.2
    rw [Slot.InRange, hd, ht, hpl, hs, hc]
    exact ⟨by decide, by decide, by decide, by decide, by decide, by decide, by decide, by decide, by decide, by decide,
      by decide, default_plan_usable _, default_plan_usable _, by decide, hi, hj⟩

/-- S0 ONLINE with a LIVE entry and its answer received, S1 DRAINING, S2 FENCED with a request still queued, S3 in
RESET_ASSERT. -/
def inService : State :=
  { base with slots :=
      { s0 := { online with traffic := { online.traffic with ort := [entry 1 .live], recvQueue := [final 1] } }
        s1 :=
          { recovering .draining none none none with
            seq := { (recovering .draining none none none).seq with drainTimer := some 0 }
            traffic := { up.traffic with ort := [entry 1 .live] } }
        s2 :=
          { recovering .fenced none none none with
            traffic := { up.traffic with ort := [entry 2 .fenced], sendQueue := [read 5] } }
        s3 :=
          { recovering .recovering (some .resetAssert) (some .slot) (some 0) with
            lines := { up.lines with slotReset := true, linkUp := false } } } }

theorem inService_sound : inService.Sound := by
  refine sound_of (forall_slot ?_ ?_ ?_ ?_) (fun r => ?_) (by decide) (by decide) rfl rfl (by decide) ⟨by decide, ?_⟩
    (by decide)
  · refine ⟨?_, ?_, ?_, ?_, ?_, ?_, ?_, ?_, ?_, ?_, ?_, ?_, ?_, ?_, ?_, ?_, ?_⟩ <;> decide
  · refine ⟨?_, ?_, ?_, ?_, ?_, ?_, ?_, ?_, ?_, ?_, ?_, ?_, ?_, ?_, ?_, ?_, ?_⟩ <;> decide
  · refine ⟨?_, ?_, ?_, ?_, ?_, ?_, ?_, ?_, ?_, ?_, ?_, ?_, ?_, ?_, ?_, ?_, ?_⟩ <;> decide
  · refine ⟨?_, ?_, ?_, ?_, ?_, ?_, ?_, ?_, ?_, ?_, ?_, ?_, ?_, ?_, ?_, ?_, ?_⟩ <;> decide
  · cases r <;> constructor <;> intro i h <;> cases h
  · intro h; cases h

/-- S0 in PROBATION after a FAULT, S1 in PROBATION after ADMIT, S2 RETIRED, S3 OFFLINE; an item of the SAQ and a host's
request ready to go. -/
def returning : State :=
  { base with
    saq := [{ requester := 0x0108, tag := 9, status := .unsupported, remaining := 4, style := .none, owner := none }]
    slots :=
      { s0 :=
          { recovering .probation none (some .slot) none with
            seq := { (recovering .probation none (some .slot) none).seq with probationTimer := some 5 } }
        s1 :=
          { recovering .probation none (some .power) none with
            seq := { (recovering .probation none (some .power) none).seq with probationTimer := some 0 }
            current := pendingRecord .admission .admission }
        s2 := { up with seq := { up.seq with state := .retired } }
        s3 := { up with seq := { up.seq with state := .offline } } } }

theorem returning_sound : returning.Sound := by
  refine sound_of (forall_slot ?_ ?_ ?_ ?_) (fun r => ?_) (by decide) (by decide) rfl rfl (by decide) ⟨by decide, ?_⟩
    (by decide)
  · refine ⟨?_, ?_, ?_, ?_, ?_, ?_, ?_, ?_, ?_, ?_, ?_, ?_, ?_, ?_, ?_, ?_, ?_⟩ <;> decide
  · refine ⟨?_, ?_, ?_, ?_, ?_, ?_, ?_, ?_, ?_, ?_, ?_, ?_, ?_, ?_, ?_, ?_, ?_⟩ <;> decide
  · refine ⟨?_, ?_, ?_, ?_, ?_, ?_, ?_, ?_, ?_, ?_, ?_, ?_, ?_, ?_, ?_, ?_, ?_⟩ <;> decide
  · refine ⟨?_, ?_, ?_, ?_, ?_, ?_, ?_, ?_, ?_, ?_, ?_, ?_, ?_, ?_, ?_, ?_, ?_⟩ <;> decide
  · cases r <;> constructor <;> intro i h <;> cases h
  · intro h; cases h

/-- A RESET PART in progress: S0 OFFLINE with a FENCED entry that is owed its answer, the mailbox BUSY, its answer to the
GO waiting. -/
def resetting : State :=
  { base with
    mailbox := { Mailbox.default with state := .busy, code := 0x3F }
    waitingAnswer := some { requester := 0x0100, tag := 7, data := none }
    presenting := some .answer
    resetScope := some (PerSlot.all true)
    slots := { base.slots with s0 := { up with traffic := { up.traffic with ort := [entry 3 .fenced] } } } }

theorem resetting_sound : resetting.Sound := by
  refine sound_of (forall_slot ?_ ?_ ?_ ?_) (fun r => ?_) (by decide) (by decide) rfl rfl (by decide)
    ⟨by decide, fun _ => ⟨by decide, forall_slot (by decide) (by decide) (by decide) (by decide)⟩⟩ (by decide)
  · refine ⟨?_, ?_, ?_, ?_, ?_, ?_, ?_, ?_, ?_, ?_, ?_, ?_, ?_, ?_, ?_, ?_, ?_⟩ <;> decide
  · refine ⟨?_, ?_, ?_, ?_, ?_, ?_, ?_, ?_, ?_, ?_, ?_, ?_, ?_, ?_, ?_, ?_, ?_⟩ <;> decide
  · refine ⟨?_, ?_, ?_, ?_, ?_, ?_, ?_, ?_, ?_, ?_, ?_, ?_, ?_, ?_, ?_, ?_, ?_⟩ <;> decide
  · refine ⟨?_, ?_, ?_, ?_, ?_, ?_, ?_, ?_, ?_, ?_, ?_, ?_, ?_, ?_, ?_, ?_, ?_⟩ <;> decide
  · cases r <;> constructor <;> intro i h <;> cases h

/-- The same reset with an item that it appended at the head of the SAQ. -/
def resettingOwn : State :=
  { resetting with
    saq :=
      [{ requester := 0x0108, tag := 9, status := .abort, remaining := 16, style := .none, owner := none, ofReset := true }] }

theorem resettingOwn_sound : resettingOwn.Sound := by
  refine sound_of (forall_slot ?_ ?_ ?_ ?_) (fun r => ?_) (by decide) (by decide) rfl rfl (by decide)
    ⟨by decide, fun _ => ⟨by decide, forall_slot (by decide) (by decide) (by decide) (by decide)⟩⟩ (by decide)
  · refine ⟨?_, ?_, ?_, ?_, ?_, ?_, ?_, ?_, ?_, ?_, ?_, ?_, ?_, ?_, ?_, ?_, ?_⟩ <;> decide
  · refine ⟨?_, ?_, ?_, ?_, ?_, ?_, ?_, ?_, ?_, ?_, ?_, ?_, ?_, ?_, ?_, ?_, ?_⟩ <;> decide
  · refine ⟨?_, ?_, ?_, ?_, ?_, ?_, ?_, ?_, ?_, ?_, ?_, ?_, ?_, ?_, ?_, ?_, ?_⟩ <;> decide
  · refine ⟨?_, ?_, ?_, ?_, ?_, ?_, ?_, ?_, ?_, ?_, ?_, ?_, ?_, ?_, ?_, ?_, ?_⟩ <;> decide
  · cases r <;> constructor <;> intro i h <;> cases h

/-- S0 DRAINING after ADMIT, S1 DRAINING after a FAULT that KILL began, S2 and S3 OFFLINE; each drain has a LIVE entry. -/
def draining2 : State :=
  let p (r : Incident) : Slot :=
    { recovering .draining none none none with
      seq := { (recovering .draining none none none).seq with drainTimer := some 5 }
      current := r
      traffic := { up.traffic with ort := [entry 1 .live] } }
  { base with slots :=
      { s0 := p (pendingRecord .admission .admission), s1 := p (pendingRecord .fault (.trip .external)), s2 := up, s3 := up } }

theorem draining2_sound : draining2.Sound := by
  refine sound_of (forall_slot ?_ ?_ ?_ ?_) (fun r => ?_) (by decide) (by decide) rfl rfl (by decide) ⟨by decide, ?_⟩
    (by decide)
  · refine ⟨?_, ?_, ?_, ?_, ?_, ?_, ?_, ?_, ?_, ?_, ?_, ?_, ?_, ?_, ?_, ?_, ?_⟩ <;> decide
  · refine ⟨?_, ?_, ?_, ?_, ?_, ?_, ?_, ?_, ?_, ?_, ?_, ?_, ?_, ?_, ?_, ?_, ?_⟩ <;> decide
  · refine ⟨?_, ?_, ?_, ?_, ?_, ?_, ?_, ?_, ?_, ?_, ?_, ?_, ?_, ?_, ?_, ?_, ?_⟩ <;> decide
  · refine ⟨?_, ?_, ?_, ?_, ?_, ?_, ?_, ?_, ?_, ?_, ?_, ?_, ?_, ?_, ?_, ?_, ?_⟩ <;> decide
  · cases r <;> constructor <;> intro i h <;> cases h
  · intro h; cases h

/-- What a step from a sound state needs: a command in front, and a next state. -/
theorem test_hyps_invariants :
    inService.Sound ∧ gives (step { inService with pending := [.tickEnd] }) (fun t => t.time.now == 1) ∧
    returning.Sound ∧ gives (step { returning with pending := [.probationTimerRunsOut .s1] })
      (fun t => (t.slot .s1).seq.state == .online && (t.slot .s1).current.outcome == .recovered) ∧
    resetting.Sound ∧ gives (step { resetting with pending := [.fencedEntryAnswer .s0] })
      (fun t => t.mailbox.state == .done && t.resetScope.isNone) :=
  ⟨inService_sound, by decide, returning_sound, by decide, resetting_sound, by decide⟩

theorem test_hyps_NoRequestIsLost :
    (inService.Sound ∧
      gives (exec (.ingressClassify (read 9)) inService) (fun t => t.debt == inService.debt + 1) ∧
      gives (exec (.receiveQueueTake .s0 false) inService)
        (fun t => t.debt + 1 == inService.debt && (t.slot .s0).traffic.stage == some (final 1))) ∧
    (returning.Sound ∧
      gives (exec (.egressGrant false) returning)
        (fun t => t.debt + 1 == returning.debt && t.trunkSent == [.answer 0x0108 9 .unsupported 4 0 []])) :=
  ⟨⟨inService_sound, by decide, by decide⟩, returning_sound, by decide⟩

/-- S1's stage full, an item in the SAQ, the answer of the Management Function waiting (the start of 1.7.1). -/
def contending (last : Source) : State :=
  { returning with
    slots := { returning.slots with s1 := { returning.slots.s1 with traffic := { up.traffic with stage := some (final 1) } } }
    waitingAnswer := some { requester := 0x0100, tag := 7, data := none }
    presenting := some .answer
    lastServed := last }

theorem test_hyps_EgressServesWithinSix :
    (contending .mgt).trunkUp = true ∧ (contending .mgt).ready .syn = true ∧
    gives (exec (.egressGrant false) (contending .mgt)) (fun t => t.lastServed == .slot .s1) ∧
    (ringAfter .mgt).idxOf .mgt = 5 ∧ (contending .mgt).ready .mgt = true := by
  decide

/-- Grants 2, 3 and 5 of the run of 1.7.1. -/
theorem test_egress_run :
    gives (exec (.egressGrant false) (contending (.slot .s1))) (fun t => t.lastServed == .syn) ∧
    gives (exec (.egressGrant false) (contending .syn)) (fun t => t.lastServed == .mgt) ∧
    gives (exec (.egressGrant false) (contending (.slot .s0))) (fun t => t.lastServed == .slot .s1) := by
  decide

/-! ### Estimators and allowances: hypotheses of O14 and O15, the worked cases of 3.4.1, 3.4.2, 3.5.1 and 3.5.2 -/

theorem test_estimator_updates :
    (Estimator.sample { est16 := 640, samples := 8 } 120).est16 = 800 ∧
    (Estimator.sample { est16 := 800, samples := 8 } 10).est16 = 720 ∧
    (Estimator.sample { est16 := 805, samples := 8 } 50).est16 = 804 ∧
    (Estimator.sample { est16 := 804, samples := 8 } 50).est16 = 803 ∧
    (Estimator.sample { est16 := 800, samples := 8 } 50).est16 = 800 := by
  decide

theorem test_estimator_learns :
    [1, 2, 3, 4, 5, 6, 7, 8].foldl (fun e _ => Estimator.sample e 200) { est16 := 0, samples := 0 } =
      { est16 := 2099, samples := 8 } := by
  decide

theorem test_hyps_EstimatorFollowsSamples :
    (Estimator.sample { est16 := 1048560, samples := 8 } 65535 = { est16 := 1048560, samples := 8 } ∧
      Estimator.sample { est16 := 1048560, samples := 7 } 0 = { est16 := 917490, samples := 8 }) ∧
    (16 * 50 ≤ 800 ∧ 793 < 16 * 50 ∧ 16 * 50 - 793 ≤ 7 ∧
      (Estimator.sample { est16 := 793, samples := 8 } 50).est16 = 793 ∧
      (Estimator.sample { est16 := 792, samples := 8 } 50).est16 = 793) := by
  decide

/-- A Deadline Unit with these MEM and CFG settings. -/
def unitOf (mem : Limits) (memEst : Nat) (cfgEst cfgSamples : Nat) : DeadlineUnit :=
  { memLimits := mem, cfgLimits := Limits.cfgDefault, memEst := { est16 := memEst, samples := 8 },
    cfgEst := { est16 := cfgEst, samples := cfgSamples } }

theorem test_hyps_AllowanceComputed :
    (unitOf { floor := 100, ceil := 50000, mult := 12, per16 := 4 } 800 0 0).allowance .mem 64 = 166 ∧
    (unitOf { floor := 100, ceil := 50000, mult := 12, per16 := 4 } 800 0 0).allowance .mem 1 = 150 ∧
    (unitOf Limits.memDefault 800 0 0).allowance .mem 64 = 1000 ∧
    (unitOf Limits.memDefault 1048560 0 0).allowance .mem 256 = 40000 ∧
    (unitOf { floor := 100, ceil := 50000, mult := 255, per16 := 255 } 1048560 0 0).allowance .mem 256 = 50000 ∧
    (unitOf Limits.memDefault 0 0 5).allowance .cfg 0 = 50000 ∧
    (unitOf Limits.memDefault 0 6400 8).allowance .cfg 0 = 2000 ∧
    Limits.memDefault.InRange ∧ Limits.cfgDefault.InRange ∧
    ({ floor := 1, ceil := 1, mult := 4, per16 := 0 } : Limits).InRange := by
  decide

/-- The table of 3.5.2; its first row, 4,294,967,500, is 204 modulo 2^32. -/
theorem test_deadline_across_wrap :
    reached 204 744 = false ∧ reached 743 744 = false ∧ reached 744 744 = true ∧
    latencyOf 500 0xFFFFFF00 = 756 := by
  decide

/-! ### Ingress: hypotheses of O16 to O22 -/

/-- The destination a transaction is given as the ingress head. -/
def destined (s : State) (tx : Transaction) (d : Destination) : Bool :=
  gives (exec (.ingressClassify tx) s) fun t => t.head == some { tx := tx, dest := d }

theorem test_hyps_HeadClassifiedOnce :
    ({ base with trunkUp := false } : State).trunkUp = false ∧
    ({ base with head := some { tx := read 1, dest := .unrouted } } : State).head.isSome = true ∧
    (base.trunkUp = true ∧ base.head = none ∧ requesterOf (.cfgRead 0xFFFF 1 0 0) = some 0xFFFF) ∧
    destined base (.cfgRead 0xFFFF 1 0 0) .unrouted ∧
    destined base (.cfgRead 0xFFFE 1 0 0) (.slot .s0) ∧ destined base (.cfgWrite 0x0100 1 3 0 0xF 1) (.slot .s3) ∧
    destined base (.cfgRead 0x0100 1 4 0) .unrouted ∧ destined base (.cfgRead 0x0100 1 6 0) .unrouted ∧
    destined base (.cfgWrite 0x0100 1 7 0x180 0xF 1) .management := by
  decide

theorem test_hyps_MessagesByDirectionAndTarget :
    (base.trunkUp = true ∧ base.head = none) ∧
    destined base (.message .downstream 0) (.slot .s0) ∧ destined base (.message .downstream 3) (.slot .s3) ∧
    destined base (.message .downstream 4) .unrouted ∧ destined base (.message .downstream 7) .management ∧
    destined base (.message .upstream 7) .unrouted ∧
    gives (exec .ingressTake { base with head := some { tx := .message .downstream 7, dest := .management } })
      (fun t => t.head.isNone) := by
  decide

theorem test_hyps_HostAnswersByBusNumber :
    let s : State := { base with slotBus := { s0 := 0, s1 := 5, s2 := 255, s3 := 5 } }
    (s.trunkUp = true ∧ s.head = none) ∧ destined s (.answer 0x0500 1 .ok 0 0 []) (.slot .s1) ∧
    destined s (.answer 0x0012 1 .ok 0 0 []) .unrouted ∧ destined s (.answer 0xFFFE 1 .ok 0 0 []) (.slot .s2) ∧
    destined s (.answer 0xFFFF 1 .ok 0 0 []) .unrouted := by
  decide

/-- A valid window that may be read. -/
def windowOf (base limit : Address) (i : SlotId) (writeRight : Bool) : Window :=
  { valid := true, base := base, limit := limit, slot := i, readRight := true, writeRight := writeRight }

/-- A small window of S1 inside a large one of S2 that may only be read; a window at the top of the address space. -/
def windowed : State :=
  let inner := defaultWindows.set 2 (windowOf 0x5000 0x5FFF .s1 true)
  let outer := inner.set 3 (windowOf 0x4000 0x7FFF .s2 false)
  { base with windowActive := outer.set 15 (windowOf 0xFFFFFFFFFFFFF000 0xFFFFFFFFFFFFFFFF .s3 true) }

theorem test_hyps_MemoryRequestsByWindow :
    (windowed.trunkUp = true ∧ windowed.head = none) ∧
    destined windowed (.memRead 0x0100 1 0x5000 1024) (.slot .s1) ∧
    destined windowed (.memRead 0x0100 1 0x5004 1024) .unrouted ∧
    destined windowed (.memRead 0x0100 1 0x4FFC 1) (.slot .s2) ∧ destined windowed (.memRead 0x0100 1 0x6000 1) (.slot .s2) ∧
    destined windowed (.memWrite 0x0100 0x4FFC 1 [0]) .refused ∧ destined windowed (.memRead 0x0100 1 0x3FFC 1) .unrouted ∧
    destined windowed (.memRead 0x0100 1 0xFFFFFFFFFFFFFFFC 1) (.slot .s3) ∧
    destined windowed (.memRead 0x0100 1 0xFFFFFFFFFFFFFFFC 2) .unrouted := by
  decide

/-- A head for S0, and S0 as given. -/
def headed (tx : Transaction) (p : Slot) : State :=
  { base.withSlotAt .s0 p with head := some { tx := tx, dest := .slot .s0 } }

/-- A slot with these Send Queue entries. -/
def sending (p : Slot) (q : List Transaction) : Slot := { p with traffic := { p.traffic with sendQueue := q } }

/-- An item of the SAQ. -/
def itemOf (t : Tag) (st : Status) (remaining : Nat) (style : DataStyle) (owner : Option Owner) : SaqItem :=
  { requester := 0x0108, tag := t, status := st, remaining := remaining, style := style, owner := owner }

/-- A state with this many items in the SAQ. -/
def filled (n : Nat) (s : State) : State := { s with saq := List.replicate n (itemOf 0 .abort 0 .none none) }

theorem test_hyps_ServingHeadJoinsSendQueue :
    let room := headed (read 9) (sending online (List.replicate 15 write))
    let full := headed (read 9) (sending online (List.replicate 16 write))
    ((room.slot .s0).seq.state = .online ∧ (room.slot .s0).traffic.sendQueue.length < 16 ∧
      gives (exec .ingressTake room) (fun t => (t.slot .s0).traffic.sendQueue == List.replicate 15 write ++ [read 9])) ∧
    ((full.slot .s0).seq.state = .online ∧ 16 ≤ (full.slot .s0).traffic.sendQueue.length ∧
      gives (exec .ingressTake full) (fun t => t.head.isSome)) := by
  decide

theorem test_hyps_ContainedHeadDisposed :
    let fenced := recovering .fenced none none none
    (nonPosted write = false ∧
      gives (exec .ingressTake (filled 64 (headed write fenced))) (fun t => (t.slot .s0).counters.droppedWrites == 1)) ∧
    (keyOf (read 9) = some (0x0108, 9) ∧ (filled 63 (headed (read 9) fenced)).saq.length < 64 ∧
      gives (exec .ingressTake (filled 63 (headed (read 9) fenced))) (fun t =>
        t.saq.length == 64 && (t.slot .s0).counters.synthetic == 1 && (t.slot .s0).current.synthetic == 1 &&
        t.saq.getLast? == some (itemOf 9 .ok 16 .ones none))) ∧
    (64 ≤ (filled 64 (headed (read 9) fenced)).saq.length ∧
      gives (exec .ingressTake (filled 64 (headed (read 9) fenced))) (fun t => t.head.isSome)) ∧
    (∃ x ∈ (sending fenced [read 5]).traffic.sendQueue, nonPosted x = true) ∧
    gives (exec .ingressTake (headed (read 9) (sending fenced [read 5]))) (fun t => t.head.isSome) ∧
    gives (exec .ingressTake (headed (read 9) (Slot.powerOn true false true))) (fun t =>
      t.saq == [itemOf 9 .abort 16 .none none]) := by
  decide

theorem test_hyps_UnroutedHeadDisposed :
    let head (tx : Transaction) (d : Destination) (n : Nat) : State := { filled n base with head := some { tx := tx, dest := d } }
    (nonPosted write = false ∧
      gives (exec .ingressTake (head write .unrouted 64)) (fun t => t.counters.unrouted == 1 && t.saq.length == 64) ∧
      gives (exec .ingressTake (head write .refused 64)) (fun t => t.counters.rights == 1)) ∧
    (keyOf (read 9) = some (0x0108, 9) ∧
      gives (exec .ingressTake (head (read 9) .refused 63)) (fun t => t.counters.rights == 1 && t.saq.length == 64)) ∧
    (nonPosted (read 9) = true ∧ gives (exec .ingressTake (head (read 9) .unrouted 64)) (fun t => t.head.isSome)) := by
  decide

/-! ### The configuration space and the mailbox: hypotheses of O23 to O26 -/

/-- A head of target 7. -/
def managed (tx : Transaction) : State := { base with head := some { tx := tx, dest := .management } }

/-- The dword read at an offset. -/
def readsAt (o : Offset) (d : Dword) : Bool :=
  gives (exec .ingressTake (managed (.cfgRead 0x0100 1 7 o))) fun t =>
    t.waitingAnswer == some { requester := 0x0100, tag := 1, data := some d } && t.presenting == some .answer

/-- The same head while the answer to an earlier request waits. -/
def answering (tx : Transaction) : State :=
  { managed tx with waitingAnswer := some { requester := 0x0100, tag := 0, data := none }, presenting := some .answer }

/-- The command changes nothing. -/
def stays (c : Instr) (s : State) : Bool := gives (exec c s) fun t => t == s

theorem test_hyps_ConfigSpaceRead :
    (managed (.cfgRead 0x0100 1 7 0)).waitingAnswer = none ∧ readsAt 0 0x00014B5A ∧ readsAt 4 0x00000F04 ∧ readsAt 0x0FC 0 ∧
    readsAt 0x100 0 ∧ readsAt 0x120 0 ∧ readsAt 0x124 0 ∧ readsAt 0x184 0 ∧ readsAt 0x23C 0 ∧ readsAt 0x240 0 ∧
    gives (exec .ingressTake { managed (.cfgRead 0x0100 1 7 0) with
      waitingAnswer := some { requester := 0x0100, tag := 1, data := none } }) (fun t => t.head.isSome) := by
  decide

theorem test_hyps_ConfigSpaceWrite :
    (managed (.cfgWrite 0x0100 1 7 0x100 0x3 0x11223344)).waitingAnswer = none ∧
    ¬((0x180 : Offset) = 0x180 ∧ (0 : ByteEnables) ≠ 0) ∧
    gives (exec .configSpaceWrite (managed (.cfgWrite 0x0100 1 7 0x100 0x3 0x11223344))) (fun t => t.mailbox.command == 0x3344) ∧
    gives (exec .configSpaceWrite (managed (.cfgWrite 0x0100 1 7 0x120 0x8 0x11223344)))
      (fun t => t.mailbox.params[7] == 0x11000000) ∧
    gives (exec .configSpaceWrite (managed (.cfgWrite 0x0100 1 7 0x180 0 1)))
      (fun t => t.mailbox == base.mailbox && t.waitingAnswer.isSome) ∧
    gives (exec .configSpaceWrite (managed (.cfgWrite 0x0100 1 7 0x124 0xF 1))) (fun t => t.mailbox == base.mailbox) ∧
    gives (exec .configSpaceWrite (managed (.cfgWrite 0x0100 1 7 0x102 0xF 1))) (fun t => t.mailbox == base.mailbox) ∧
    (answering (.cfgWrite 0x0100 1 7 0x100 0xF 1)).waitingAnswer.isSome = true ∧
    stays .configSpaceWrite (answering (.cfgWrite 0x0100 1 7 0x100 0xF 1)) ∧
    stays .ingressTake (answering (.cfgWrite 0x0100 1 7 0x100 0xF 1)) := by
  decide

theorem test_hyps_GoWithoutCommand :
    ((answering (.cfgWrite 0x0100 7 7 0x180 0x1 0)).waitingAnswer.isSome = true ∧
      stays .ingressTake (answering (.cfgWrite 0x0100 7 7 0x180 0x1 0)) ∧
      stays .resetPart { answering (.cfgWrite 0x0100 7 7 0x180 0x1 0) with
        mailbox := { Mailbox.default with command := 0x3F } }) ∧
    (({ managed (.cfgWrite 0x0100 7 7 0x180 0x1 0) with
        mailbox := { Mailbox.default with state := .busy } } : State).mailbox.state = .busy ∧
      gives (exec .goLost { managed (.cfgWrite 0x0100 7 7 0x180 0x1 0) with
        mailbox := { Mailbox.default with state := .busy } }) (fun t => t.mailbox.goLost)) ∧
    (go 0x04 0 [] base).GoReady 0x0100 7 0x04 ∧
    gives (exec .unknownCommand (go 0x04 0 [] base)) (fun t => t.mailbox.result == .unknownCommand && t.mailbox.code == 4) ∧
    (go 0x20 4 [] base).GoReady 0x0100 7 0x20 ∧ 4 ≤ (go 0x20 4 [] base).mailbox.command.toNat / 256 % 256 ∧
    gives (exec .querySlot (go 0x20 4 [] base)) (fun t => t.mailbox.result == .badSlot) :=
  ⟨by decide, by decide, go_ready base 4 0 [] (by decide) rfl (by decide), by decide,
    go_ready base 0x20 4 [] (by decide) rfl (by decide), by decide, by decide⟩

theorem test_hyps_TakeRunsTheCommand :
    (go 0x0B 0 [16] base).GoReady 0x0100 7 0x0B ∧
    gives (exec .ingressTake (go 0x0B 0 [16] base)) (fun t => t.health.visit == 16 && t.mailbox.result == .ok) :=
  ⟨go_ready base 0x0B 0 [16] (by decide) rfl (by decide), by decide⟩

/-! ### Queues, the ORT and the trunk: hypotheses of O27 to O35 -/

/-- A slot with these ORT entries. -/
def holding (p : Slot) (ort : List Entry) : Slot := { p with traffic := { p.traffic with ort := ort } }

/-- A slot with its link down. -/
def unlinked (p : Slot) : Slot := { p with lines := { p.lines with linkUp := false } }

/-- The base state with S0 as given. -/
def sole (p : Slot) : State := base.withSlotAt .s0 p

/-- Entries with these numbers, all LIVE. -/
def entries (l : List Nat) : List Entry := l.map fun n => entry n .live

theorem test_hyps_SendQueueHeadDeparts :
    let waits (p : Slot) : Bool := gives (exec (.sendQueueDeparture .s0) (sole p)) fun t => t == sole p
    ((sending online [write]).serving = true ∧ (unlinked (sending online [write])).lines.linkUp = false ∧
      waits (unlinked (sending online [write]))) ∧
    gives (exec (.sendQueueDeparture .s0) (sole (sending online [write])))
      (fun t => (t.slot .s0).traffic.sendQueue == [] && (t.slot .s0).counters.forwarded == 1) ∧
    (sending (recovering .fenced none none none) [read 5]).serving = false ∧
    waits (sending (recovering .fenced none none none) [read 5]) ∧
    entryRequestOf (read 1) = some (0x0108, 1, .memRead 0x1000 4) ∧
    waits (holding (sending online [read 1]) (entries [1])) ∧
    waits (holding (sending online [read 40]) (entries (List.range 32))) ∧
    gives (exec (.sendQueueDeparture .s0) (sole (holding (sending online [read 40]) (entries (List.range 31)))))
      (fun t => (t.slot .s0).traffic.ort.getLast? == some
        { number := 31, requester := 0x0108, tag := 40, request := .memRead 0x1000 4, issueTime := 0, deadline := 40000,
          remaining := 16, keepKey := true, state := .live }) ∧
    gives (exec (.sendQueueDeparture .s0) (sole (holding (sending online [read 40]) (entries [0, 2]))))
      (fun t => (t.slot .s0).traffic.ort.map Entry.number == [0, 2, 1]) := by
  decide

theorem test_hyps_DuplicateKeyAnswered :
    let s := sole (holding (sending online [read 1]) (entries [1]))
    (s.slot .s0).serving = true ∧ keyOf (read 1) = some (0x0108, 1) ∧
    (∃ e ∈ (s.slot .s0).traffic.ort, e.requester = 0x0108 ∧ e.tag = 1) ∧
    gives (exec (.duplicateKeyDisposal .s0) (filled 63 s)) (fun t =>
      t.saq.length == 64 && (t.slot .s0).counters.duplicateKeys == 1 && (t.slot .s0).counters.synthetic == 0) ∧
    gives (exec (.duplicateKeyDisposal .s0) (filled 64 s)) (fun t => t == filled 64 s) := by
  decide

theorem test_hyps_ContainmentAnswers :
    let queued := sole (sending (recovering .fenced none none none) [read 5, write, write, read 6])
    let fenced := sole (holding (recovering .fenced none none none) [entry 1 .answering, entry 2 .fenced, entry 3 .fenced])
    ((queued.slot .s0).serving = false ∧
      (queued.slot .s0).traffic.sendQueue = read 5 :: ([write, write] ++ [read 6]) ∧
      gives (exec (.containmentQueueAnswer .s0) (filled 63 queued)) (fun t =>
        (t.slot .s0).traffic.sendQueue == [read 6] && (t.slot .s0).counters.droppedWrites == 2 && t.saq.length == 64)) ∧
    ((fenced.slot .s0).traffic.ort = [entry 1 .answering] ++ entry 2 .fenced :: [entry 3 .fenced] ∧
      gives (exec (.fencedEntryAnswer .s0) (filled 63 fenced)) (fun t =>
        (t.slot .s0).traffic.ort == [entry 1 .answering, entry 2 .answering, entry 3 .fenced] &&
        t.saq.getLast? == some (itemOf 2 .ok 16 .ones (some { slot := .s0, entry := 2 })))) ∧
    gives (exec (.containmentQueueAnswer .s0) (filled 64 queued)) (fun t => t == filled 64 queued) ∧
    gives (exec (.fencedEntryAnswer .s0) (filled 64 fenced)) (fun t => t == filled 64 fenced) := by
  decide

/-- A RESET PART in progress that waits for S0 alone. -/
def resettingWith (p : Slot) : State := { resetting with slots := { base.slots with s0 := p } }

/-- The answer to the last request owed ends the reset; an answer before the last does not. -/
theorem test_hyps_ContainmentAnswers_reset :
    gives (exec (.fencedEntryAnswer .s0) (resettingWith (holding up [entry 3 .fenced]))) (fun t =>
      t.resetScope.isNone && t.mailbox.state == .done && t.saq.length == 1 && t.presenting == some .answer) ∧
    gives (exec (.containmentQueueAnswer .s0) (resettingWith (sending up [read 5, write]))) (fun t =>
      t.resetScope.isNone && t.mailbox.state == .done && (t.slot .s0).traffic.sendQueue == []) ∧
    gives (exec (.containmentQueueAnswer .s0) (resettingWith (sending up [read 5, read 6]))) (fun t =>
      t.resetScope.isSome && t.mailbox.state == .busy && t.saq.length == 1) := by
  decide

/-- The reset marks what it appends; before such an item is sent the claims that are left are met and the reset ends; out of
a full SAQ it is sent at once, and so is an item that the reset did not append; an item of an earlier reset counts as the
SAQ's own. -/
theorem test_reset_items_wait :
    let own (b : Bool) : SaqItem := { itemOf 5 .abort 16 .none none with ofReset := b }
    let going (q : List SaqItem) : State := { resettingWith (sending up [read 5, read 6]) with saq := q, presenting := none }
    gives (exec (.containmentQueueAnswer .s0) (going [])) (fun t => t.saq.map SaqItem.ofReset == [true]) ∧
    gives (exec (.containmentQueueAnswer .s0) (sole (sending up [read 5, read 6]))) (fun t =>
      t.saq.map SaqItem.ofReset == [false]) ∧
    gives (exec (.egressGrant false) (going [own true])) (fun t =>
      t.lastServed == .syn && t.saq.length == 2 && t.mailbox.state == .done && (t.slot .s0).traffic.sendQueue == []) ∧
    gives (exec (.egressGrant false) (going (List.replicate 63 (own true)))) (fun t =>
      t.saq.length == 63 && t.mailbox.state == .busy && (t.slot .s0).traffic.sendQueue == [read 6]) ∧
    gives (exec (.egressGrant false) (going (List.replicate 64 (own true)))) (fun t =>
      t.lastServed == .syn && t.saq.length == 63 && t.mailbox.state == .busy) ∧
    gives (exec (.egressGrant false) (going [own false, own true])) (fun t => t.saq == [own true]) ∧
    gives (exec (.egressGrant false) { going [own true] with resetScope := none }) (fun t => t.saq == []) ∧
    gives (exec .resetPart (go 0x3F 0 [] { sole (sending up [read 5]) with saq := [own true] })) (fun t =>
      t.mailbox.state == .busy && t.saq == [own false]) := by
  decide

/-- A slot with these Receive Queue entries. -/
def received (p : Slot) (q : List Transaction) : Slot := { p with traffic := { p.traffic with recvQueue := q } }

theorem test_hyps_CardTrafficReceived :
    let take (p : Slot) (f : Slot → Bool) : Bool := gives (exec (.receiveQueueTake .s0 false) (sole p)) fun t => f (t.slot .s0)
    gives (exec (.slotLinkReceive .s0 write) (sole (received online (List.replicate 15 write))))
      (fun t => (t.slot .s0).traffic.recvQueue.length == 16) ∧
    gives (exec (.slotLinkReceive .s0 write) (sole (received online (List.replicate 16 write))))
      (fun t => (t.slot .s0).traffic.recvQueue.length == 16) ∧
    isAnswer write = false ∧ take (received online [write]) (fun p => p.traffic.stage == some write) ∧
    take (received { online with traffic := { online.traffic with stage := some write } } [write])
      (fun p => p.traffic.recvQueue == [write]) ∧
    take (received (recovering .fenced none none none) [write])
      (fun p => p.counters.droppedCardRequests == 1 && p.current.dropped == 1) ∧
    take (received online [.message .upstream 0]) (fun p => p.traffic.stage.isSome) ∧
    take (received online [.message .downstream 0]) (fun p => p.counters.droppedCardRequests == 1) ∧
    take (received online [.cfgRead 0x0500 1 0 0]) (fun p => p.counters.droppedCardRequests == 1) := by
  decide

/-- A partial answer to `entry n`: 4 of the bytes still owed. -/
def partialAnswer (n remaining : Nat) : Transaction := .answer 0x0108 (BitVec.ofNat 8 n) .ok remaining 4 [0, 0, 0, 0]

theorem test_hyps_LiveAnswerMatched :
    let take (p : Slot) (f : Slot → Bool) : Bool := gives (exec (.receiveQueueTake .s0 false) (sole p)) fun t => f (t.slot .s0)
    let takeWithRoom (p : Slot) (f : Slot → Bool) : Bool :=
      gives (exec (.receiveQueueTake .s0 true) (sole p)) fun t => f (t.slot .s0)
    let ort := [entry 0 .live] ++ entry 1 .live :: [entry 2 .live]
    (∀ x ∈ [entry 0 .live], ¬(x.requester = 0x0108 ∧ x.tag = 1)) ∧ (entry 1 .live).state = .live ∧
    take (holding (received online [partialAnswer 1 16]) ort)
      (fun p => p.traffic.ort == [entry 0 .live, { entry 1 .live with remaining := 12 }, entry 2 .live]) ∧
    take (holding (received online [final 1]) ort)
      (fun p => p.traffic.ort == [entry 0 .live, entry 2 .live] && p.traffic.stage == some (final 1) &&
        p.deadlines.memEst.samples == 1) ∧
    take (holding (received online [.answer 0x0108 1 .retry 16 0 []]) ort) (fun p => p.traffic.ort.length == 2) ∧
    takeWithRoom (sending (holding (received online [final 1]) ort) [write, read 9])
      (fun p => p.traffic.ort == [entry 0 .live, entry 2 .live] && p.traffic.sendQueue == [write, read 9]) ∧
    takeWithRoom (sending (holding (received (recovering .draining none none none) [final 1]) ort) [read 9])
      (fun p => p.traffic.ort == [entry 0 .live, entry 2 .live] && p.traffic.sendQueue == [read 9]) ∧
    take (holding (received (recovering .draining none none none) [final 1]) [entry 1 .live])
      (fun p => p.seq.state == .recovering && p.seq.phase == some .resetAssert) ∧
    take (holding (received { online with traffic := { online.traffic with stage := some write } } [final 1]) ort)
      (fun p => p.traffic.recvQueue == [final 1]) := by
  decide

theorem test_hyps_UnmatchedAnswersDiscarded :
    let take (p : Slot) (f : Slot → Bool) : Bool := gives (exec (.receiveQueueTake .s0 false) (sole p)) fun t => f (t.slot .s0)
    take (received online [final 1])
      (fun p => p.counters.stray == 1 && p.detect.pendingStrays == 1 && p.traffic.stage.isNone) ∧
    take (holding (received online [partialAnswer 1 20]) [entry 1 .live])
      (fun p => p.counters.stray == 1 && p.traffic.ort == [entry 1 .live]) ∧
    take (holding (received online [.answer 0x0108 1 .ok 16 17 []]) [entry 1 .live]) (fun p => p.counters.stray == 1) ∧
    take (holding (received (recovering .fenced none none none) [final 1]) [entry 1 .fenced])
      (fun p => p.counters.stale == 1 && p.current.stale == 1 && p.traffic.ort == [entry 1 .fenced]) ∧
    take (holding (received online [final 1]) [entry 1 .tombstone])
      (fun p => p.counters.stale == 1 && p.traffic.ort == []) ∧
    gives (exec (.receiveQueueTake .s0 true) (sole (holding (received online [final 1]) [entry 1 .tombstone])))
      (fun t => (t.slot .s0).traffic.ort == []) ∧
    take (holding (received online [partialAnswer 1 16]) [entry 1 .tombstone])
      (fun p => p.counters.stale == 1 && p.traffic.ort == [entry 1 .tombstone]) := by
  decide

/-- S0 with a full ORT, a head waiting for an entry, and the answer that frees entry 7. -/
def waiting : State :=
  sole (holding (sending (received online [final 7]) [read 40]) (entries (List.range 32)))

/-- S0 with a full ORT whose entry 7 is ANSWERING without its key kept, its item at the head of the SAQ. -/
def answered : State :=
  { sole (holding (sending online [read 40])
      (entries (List.range 7) ++ { entry 7 .answering with keepKey := false } :: entries (List.range' 8 24))) with
    saq := [itemOf 7 .abort 16 .none (some { slot := .s0, entry := 7 })] }

theorem test_hyps_FreedEntryAdmitsWaitingHead :
    ((waiting.slot .s0).serving = true ∧ (waiting.slot .s0).traffic.sendQueue.head? = some (read 40) ∧
      nonPosted (read 40) = true ∧ (waiting.slot .s0).traffic.ort.length = 32 ∧
      gives (exec (.receiveQueueTake .s0 false) waiting) (fun t => (t.slot .s0).traffic.ort.length == 31) ∧
      gives (exec (.receiveQueueTake .s0 true) waiting) (fun t =>
        (t.slot .s0).traffic.sendQueue == [] && (t.slot .s0).traffic.ort.getLast?.map Entry.number == some 7)) ∧
    ((answered.slot .s0).serving = true ∧ (answered.slot .s0).traffic.ort.length = 32 ∧
      gives (exec (.egressGrant false) answered) (fun t => (t.slot .s0).traffic.ort.length == 31) ∧
      gives (exec (.egressGrant true) answered) (fun t =>
        (t.slot .s0).traffic.sendQueue == [] && (t.slot .s0).traffic.ort.getLast?.map Entry.tag == some 40)) := by
  decide

theorem test_hyps_EgressSendsWhatIsGranted :
    let noticed : State := { base with
      notices := { Notices.default with enabled := true, address := 0x8000, unsent := true, summary := { Summary.clear with killChange := true } }
      presenting := some .notice }
    (({ base with trunkUp := false } : State).trunkUp = false ∧
      base.ready .syn = false ∧ base.ready .mgt = false ∧ base.ready (.slot .s0) = false ∧
      gives (exec (.egressGrant false) base) (fun t => t == base)) ∧
    ((contending .mgt).nextSource = some (.slot .s1) ∧
      gives (exec (.egressGrant false) (contending .mgt)) (fun t => t.trunkSent == [final 1] && (t.slot .s1).traffic.stage.isNone)) ∧
    ((contending .syn).nextSource = some .mgt ∧ (contending .syn).presenting = some .answer ∧
      gives (exec (.egressGrant false) (contending .syn))
        (fun t => t.trunkSent == [.answer 0x0100 7 .ok 0 0 []] && t.presenting.isNone)) ∧
    (noticed.nextSource = some .mgt ∧
      gives (exec (.egressGrant false) noticed)
        (fun t => t.trunkSent == [.memWrite 0xFFFF 0x8000 1 [0x10]] && t.counters.notices == 1 && !t.notices.unsent)) := by
  decide

/-- S0 with an ANSWERING entry whose item is at the head of the SAQ. -/
def kept : State :=
  { sole (holding (recovering .fenced none none none) [entry 1 .answering]) with
    saq := [itemOf 1 .ok 4 .ones (some { slot := .s0, entry := 1 })] }

theorem test_hyps_SynSendsTheHeadItem_reset :
    resettingOwn.Sound ∧ resettingOwn.trunkUp = true ∧ resettingOwn.nextSource = some .syn ∧
      resettingOwn.resetScope.isSome = true ∧ resettingOwn.saq.length < 64 ∧
      gives (exec (.egressGrant false) resettingOwn) (fun t =>
        t.trunkSent == [.answer 0x0108 9 .abort 16 0 []] && t.resetScope.isNone && t.mailbox.state == .done &&
        t.saq.map SaqItem.tag == [3]) :=
  ⟨resettingOwn_sound, by decide, by decide, by decide, by decide, by decide⟩

theorem test_hyps_SynSendsTheHeadItem :
    (returning.nextSource = some .syn ∧
      gives (exec (.egressGrant false) returning) (fun t => t.saq == [] && t.lastServed == .syn)) ∧
    (kept.nextSource = some .syn ∧
      gives (exec (.egressGrant false) kept) (fun t =>
        t.trunkSent == [.answer 0x0108 1 .ok 4 4 [0xFF, 0xFF, 0xFF, 0xFF]] &&
        (t.slot .s0).traffic.ort == [entry 1 .tombstone])) ∧
    gives (exec (.egressGrant false) answered) (fun t => (t.slot .s0).traffic.ort.all fun e => e.number != 7) ∧
    gives (exec (.egressGrant true) (answered.withSlotAt .s0 (sending (answered.slot .s0) [])))
      (fun t => (t.slot .s0).traffic.ort.length == 31) := by
  decide

/-! ### Detection and trips: hypotheses of O36 to O38 -/

/-- What S0 is after a command on a state with S0 as given. -/
def becomes (c : Instr) (p : Slot) (f : Slot → Bool) : Bool := gives (exec c (sole p)) fun t => f (t.slot .s0)

/-- The slot as it is, unless told otherwise. -/
def unchanged (c : Instr) (p : Slot) : Bool := gives (exec c (sole p)) fun t => t == sole p

/-- A slot that tripped with this first cause and went on to this state. -/
def trippedTo (st : SlotState) (c : TripCause) (p : Slot) : Bool :=
  p.seq.state == st && p.current.firstCause == .trip c && p.current.outcome == .pending && p.counters.trips == 1 &&
    p.current.sequence == 1

/-- ONLINE with a LIVE entry. -/
def busySlot : Slot := holding online [entry 1 .live]

/-- A slot whose STALL trip is due. -/
def due (p : Slot) : Slot := { p with detect := { p.detect with stallDue := true } }

theorem test_hyps_ServingSlotTrips :
    (online.detect.stallDue = false ∧ unchanged (.stallTrip .s0) online) ∧
    (up.serving = false ∧ unchanged (.stallTrip .s0) (due up)) ∧
    gives (exec .isolate (go 0x19 0 [] (sole up))) (fun t => t.mailbox.result == .wrongState) ∧
    (busySlot.serving = true ∧ (due busySlot).detect.stallDue = true ∧
      becomes (.stallTrip .s0) (due busySlot) (trippedTo .draining .stall)) ∧
    (busySlot.lines.linkUp = true ∧ becomes (.linkLoss .s0) busySlot (trippedTo .draining .linkDown)) ∧
    (busySlot.lines.pwrgd = true ∧ becomes (.powerLoss .s0) busySlot (trippedTo .draining .powerLoss)) ∧
    ((entry 1 .live).deadline = 40000 ∧
      gives (exec (.expiry .s0 1) { sole busySlot with time := { Timebase.default with now := 40000 } })
        (fun t => trippedTo .recovering .deadline (t.slot .s0) && (t.slot .s0).current.view.liveCount == 1)) ∧
    gives (exec (.expiry .s0 1) { sole busySlot with time := { Timebase.default with now := 39999 } })
      (fun t => (t.slot .s0).seq.state == .online) ∧
    gives (exec .isolate (go 0x19 0 [] (sole busySlot)))
      (fun t => trippedTo .draining .commanded (t.slot .s0) && t.mailbox.response[0] == 1) :=
  by decide

/-- A slot of a FAULT's recovery with its link, or its supply, gone. -/
theorem test_hyps_LossesOutsideService :
    unchanged (.linkLoss .s0) (unlinked online) ∧
    becomes (.linkLoss .s0) (recovering .fenced none none none) (fun p => p.current.further == 0x04 && p.seq.state == .fenced) ∧
    becomes (.linkLoss .s0) (recovering .recovering (some .settle) (some .slot) (some 5))
      (fun p => p.seq.phase == some .resetAssert && p.seq.attempts.slot == 1) ∧
    becomes (.linkLoss .s0) (recovering .recovering (some .resetAssert) (some .slot) (some 5))
      (fun p => p.seq.phase == some .resetAssert && p.seq.attempts.slot == 0 && !p.lines.linkUp) ∧
    becomes (.linkLoss .s0) up (fun p => p.seq.state == .offline && !p.lines.linkUp) ∧
    becomes (.powerLoss .s0) (recovering .draining none none none) (fun p => p.current.further == 0x20) ∧
    becomes (.powerLoss .s0)
      { recovering .recovering (some .powerOn) (some .power) (some 5) with
        seq := { (recovering .recovering (some .powerOn) (some .power) (some 5)).seq with pwrgdSeen := true } }
      (fun p => p.seq.attempts.power == 1 && p.seq.phase == some .resetAssert && !p.lines.powerEnable) ∧
    becomes (.powerLoss .s0) (recovering .recovering (some .linkWait) (some .slot) (some 5))
      (fun p => p.seq.phase == some .linkWait && !p.lines.pwrgd) ∧
    becomes (.powerLoss .s0) { up with lines := { up.lines with pwrgd := false } } (fun p => !p.lines.pwrgd) := by
  decide

/-- ONLINE with these pending counts. -/
def counted (errors strays : Nat) : Slot :=
  { online with detect := { online.detect with pendingErrors := errors, pendingStrays := strays } }

/-- The visit timer has run out. -/
def visiting (p : Slot) : State := { sole p with health := { HealthMonitor.default with visitTimer := 0 } }

theorem test_hyps_HealthVisited :
    (base.health.visitTimer ≠ 0 ∧ gives (exec .healthVisit base) (fun t => t == base)) ∧
    gives (exec .healthVisit (visiting (counted 32 8))) (fun t =>
      (t.slot .s0).seq.state == .online && (t.slot .s0).detect.errAcc == 32 && t.health.nextSlot == .s1 &&
      t.health.visitTimer == 250) ∧
    gives (exec .healthVisit (visiting (counted 33 9))) (fun t =>
      (t.slot .s0).current.firstCause == .trip .linkErrors && (t.slot .s0).current.further == 0x10) ∧
    gives (exec .healthVisit (visiting (counted 32 9))) (fun t => (t.slot .s0).current.firstCause == .trip .strayAnswers) ∧
    gives (exec .healthVisit (visiting { up with detect := { up.detect with errAcc := 9, pendingStrays := 9 } }))
      (fun t => (t.slot .s0).detect == up.detect) ∧
    becomes (.correctedLinkError .s0) (counted 255 0) (fun p => p.detect.pendingErrors == 255) ∧
    becomes (.correctedLinkError .s0) up (fun p => p.detect.pendingErrors == 0) := by
  decide

/-! ### DRAINING and recovery: hypotheses of O39 to O43 -/

/-- DRAINING with a LIVE entry and this count of the drain timer. -/
def draining (n : Nat) : Slot :=
  let p := recovering .draining none none none
  holding { p with seq := { p.seq with drainTimer := some n } } [entry 1 .live]

/-- The same slot in an ADMISSION. -/
def admitted (p : Slot) : Slot := { p with current := pendingRecord .admission .admission }

/-- The same slot, held. -/
def held (p : Slot) : Slot := { p with seq := { p.seq with held := true } }

theorem test_hyps_DrainEnds :
    ((admitted (draining 0)).current.kind = .admission ∧
      becomes (.drainTimerRunsOut .s0) (admitted (draining 0))
        (fun p => p.seq.state == .offline && p.current.outcome == .failed && p.traffic.ort == [entry 1 .fenced])) ∧
    ((draining 0).current.kind = .fault ∧ (draining 0).current.firstCause = .trip .stall ∧
      (draining 0).seq.plan.autoCauses.getLsbD 1 = true ∧
      becomes (.drainTimerRunsOut .s0) (draining 0) (fun p =>
        p.seq.state == .recovering && p.traffic.ort == [{ entry 1 .fenced with keepKey := false }])) ∧
    gives (exec (.drainTimerRunsOut .s0) { sole (draining 0) with kill := true }) (fun t => (t.slot .s0).seq.state == .fenced) ∧
    unchanged (.drainTimerRunsOut .s0) (draining 1) ∧ unchanged (.drainTimerRunsOut .s0) busySlot ∧
    gives (exec (.expiry .s0 1) { sole (draining 5) with time := { Timebase.default with now := 40000 } })
      (fun t => (t.slot .s0).seq.state == .recovering) ∧
    gives (exec (.expiry .s0 1) { sole (draining 5) with time := { Timebase.default with now := 39999 } })
      (fun t => (t.slot .s0).seq.state == .draining) := by
  decide

/-- The default plan with a FUNCTION RESET WRITE and START LEVEL FUNCTION. -/
def functionPlan : Plan :=
  { Plan.default with startLevel := .function, functionReset := some { offset := 0x040, data := 0x80 } }

/-- FENCED, with this plan sample and these attempt counts. -/
def laddered (plan : Plan) (function slot power : Nat) : Slot :=
  let p := recovering .fenced none none none
  { p with seq := { p.seq with sample := plan, attempts := { function := function, slot := slot, power := power } } }

/-- The ladder climbed by S0, its rail held by S1 or free. -/
def climbs (p : Slot) (holder : Option SlotId) (f : State → Bool) : Bool :=
  f (({ sole p with railA := { holder := holder, waiting := none } } : State).climb .s0 false)

theorem test_hyps_LadderClimbs :
    (∀ l, ¬(laddered functionPlan 1 2 1).Callable l) ∧
    climbs (laddered functionPlan 1 2 1) none (fun t => (t.slot .s0).seq.state == .retired) ∧
    (laddered functionPlan 0 0 0).Callable .function ∧ (laddered functionPlan 0 0 0).lines.linkUp = true ∧
    climbs (laddered functionPlan 0 0 0) none (fun t =>
      (t.slot .s0).seq.phase == some .functionReset &&
      (t.slot .s0).exec.inFlight == some { tag := 0, request := .write 0x040 0xF 0x80, onLink := false }) ∧
    climbs (unlinked (laddered functionPlan 0 0 0)) none (fun t =>
      (t.slot .s0).seq.attempts.function == 1 && (t.slot .s0).seq.phase == some .resetAssert) ∧
    (¬(laddered Plan.default 0 1 0).Callable .function ∧ (laddered Plan.default 0 1 0).Callable .slot) ∧
    climbs (laddered Plan.default 0 1 0) none (fun t => (t.slot .s0).seq.phase == some .resetAssert) ∧
    (¬(laddered Plan.default 0 2 0).Callable .slot ∧ (laddered Plan.default 0 2 0).Callable .power) ∧
    climbs (laddered Plan.default 0 2 0) none (fun t =>
      (t.slot .s0).seq.phase == some .powerOff && t.railA.holder == some .s0) ∧
    climbs (laddered Plan.default 0 2 0) (some .s1) (fun t =>
      (t.slot .s0).seq.phase == some .railWait && t.railA.waiting == some .s0) := by
  refine ⟨fun l => ?_, ?_, ?_, ?_, ?_, ?_, ⟨?_, ?_⟩, ?_, ⟨?_, ?_⟩, ?_, ?_⟩
  · cases l <;> (unfold Slot.Callable; decide)
  all_goals first | decide | (unfold Slot.Callable; decide)

/-- RESTORING at position 0 of this script, with an access in flight. -/
def restoring (script : List Step) (x : Executor) : Slot :=
  let p := recovering .recovering (some .restoring) (some .slot) none
  { p with script := { p.script with active := script }, exec := { x with step := some 0 } }

/-- The executor with an access in flight on the link. -/
def accessing (a : AccessRequest) : Executor :=
  { Executor.default with inFlight := some { tag := 3, request := a, onLink := true }, nextTag := 4 }

/-- A phase whose timer has run out. -/
def elapsed (ph : Phase) (l : Level) : Slot := recovering .recovering (some ph) (some l) (some 0)

theorem test_hyps_AttemptFails :
    let again (p : Slot) : Bool := p.seq.attempts.slot == 1 && p.seq.phase == some .resetAssert
    ((admitted (elapsed .linkWait .slot)).current.kind = .admission ∧
      becomes (.linkWaitTimerRunsOut .s0) (admitted (elapsed .linkWait .slot))
        (fun p => p.seq.state == .offline && p.current.outcome == .failed)) ∧
    ((elapsed .linkWait .slot).current.kind = .fault ∧ becomes (.linkWaitTimerRunsOut .s0) (elapsed .linkWait .slot) again) ∧
    becomes (.functionResetTimerRunsOut .s0) (elapsed .functionReset .function)
      (fun p => p.seq.attempts.function == 1 && p.seq.phase == some .resetAssert) ∧
    becomes (.pwrgdLimitRunsOut .s0) (elapsed .powerOn .power)
      (fun p => p.seq.attempts.power == 1 && p.seq.phase == some .resetAssert && !p.lines.powerEnable) ∧
    becomes (.stepTimerRunsOut .s0) (restoring [.write 0 0xF 1] { accessing (.write 0 0xF 1) with stepTimer := some 0 }) again ∧
    becomes (.pollLimitRunsOut .s0) (restoring [.poll 0 1 1 5] { accessing (.read 0) with limitTimer := some 0 }) again ∧
    ((held (elapsed .linkWait .slot)).seq.held = true ∧ unchanged (.linkWaitTimerRunsOut .s0) (held (elapsed .linkWait .slot))) ∧
    unchanged (.drainTimerRunsOut .s0) (held (draining 0)) := by
  decide

/-- S0's phase ends with S0 holding rail A, S1 waiting for it or not. -/
def railed (p : Slot) (waits : Bool) : State :=
  { (base.withSlotAt .s1 (recovering .recovering (some .railWait) (some .power) none)).withSlotAt .s0 p with
    railA := { holder := some .s0, waiting := if waits then some .s1 else none } }

/-- In the second part of POWER_ON, its timer run out. -/
def supplied : Slot :=
  let p := unlinked (elapsed .powerOn .power)
  { p with seq := { p.seq with pwrgdSeen := true } }

/-- The first part of POWER_ON without supply. -/
def unsupplied (n : Nat) : Slot :=
  let p := recovering .recovering (some .powerOn) (some .power) (some n)
  { p with lines := { p.lines with pwrgd := false } }

theorem test_hyps_PhasesAdvance :
    becomes (.resetAssertTimerRunsOut .s0) (unlinked (elapsed .resetAssert .slot))
      (fun p => p.seq.phase == some .linkWait && p.seq.phaseTimer == some 1024000 && !p.lines.slotReset) ∧
    becomes (.resetAssertTimerRunsOut .s0) (elapsed .resetAssert .slot) (fun p => p.seq.phase == some .settle) ∧
    becomes (.powerOffTimerRunsOut .s0) (elapsed .powerOff .power)
      (fun p => p.seq.phase == some .powerOn && p.seq.pwrgdSeen && p.seq.phaseTimer == some 102400) ∧
    (((railed supplied false).rail .a).holder = some .s0 ∧
      gives (exec (.onSettleRunsOut .s0) (railed supplied false))
        (fun t => t.railA == Rail.free && (t.slot .s0).seq.phase == some .linkWait)) ∧
    (((railed supplied true).rail .a).waiting = some .s1 ∧
      gives (exec (.onSettleRunsOut .s0) (railed supplied true)) (fun t =>
        t.railA == { holder := some .s1, waiting := none } && (t.slot .s1).seq.phase == some .powerOff)) ∧
    unchanged (.linkUp .s0) up ∧
    becomes (.linkUp .s0) (unlinked (elapsed .linkWait .slot)) (fun p => p.seq.phase == some .settle && p.lines.linkUp) ∧
    becomes (.linkUp .s0) (unlinked up) (fun p => p == up) ∧
    unchanged (.powerRise .s0) up ∧
    becomes (.powerRise .s0) (unsupplied 7) (fun p => p.seq.pwrgdSeen && p.seq.phaseTimer == some 102400) ∧
    becomes (.powerRise .s0) { up with lines := { up.lines with pwrgd := false } } (fun p => p == up) := by
  decide

/-- SETTLE is over; the restore script is the given one. -/
def settled (script : List Step) (restore : Bool) : Slot :=
  let p := elapsed .settle .slot
  { p with
    script := { p.script with active := script }
    seq := { p.seq with sample := { Plan.default with restoreOnRecovery := restore } } }

theorem test_hyps_ServiceResumes :
    becomes (.settleTimerRunsOut .s0) (settled [.pause 1] false) (fun p => p.seq.state == .probation) ∧
    becomes (.settleTimerRunsOut .s0) (settled [] true) (fun p => p.seq.state == .probation) ∧
    becomes (.settleTimerRunsOut .s0) (settled [.pause 2] true)
      (fun p => p.seq.phase == some .restoring && p.exec.pauseTimer == some 2048 && p.exec.step == some 0) ∧
    becomes (.pauseRunsOut .s0) (restoring [.pause 2, .pause 3] { Executor.default with pauseTimer := some 0 })
      (fun p => p.exec.step == some 1 && p.exec.pauseTimer == some 3072) ∧
    becomes (.pauseRunsOut .s0) (restoring [.pause 2] { Executor.default with pauseTimer := some 0 })
      (fun p => p.seq.state == .probation && p.seq.probationTimer == some 5120000) ∧
    gives (exec (.probationTimerRunsOut .s1) returning)
      (fun t => (t.slot .s1).seq.state == .online && (t.slot .s1).current.outcome == .recovered) := by
  decide

/-! ### The Restore Executor: hypotheses of O44 and O45 -/

/-- FUNCTION_RESET, the reset write in flight and not yet on the link. -/
def resetWriting (x : Executor) : Slot :=
  let p := recovering .recovering (some .functionReset) (some .function) (some 5)
  { p with seq := { p.seq with sample := functionPlan }, exec := x }

/-- An access that has not gone to the link. -/
def unsent (a : AccessRequest) : Executor :=
  { Executor.default with inFlight := some { tag := 3, request := a, onLink := false }, nextTag := 4 }

theorem test_hyps_ExecutorAccesses :
    becomes (.executorAccessSend .s0)
      (holding (resetWriting (unsent (.write 0x040 0xF 0x80))) [entry 1 .fenced, entry 2 .tombstone])
      (fun p => p.traffic.linkSent == [.cfgWrite 0xFFFF 3 0x040 0xF 0x80] &&
        p.traffic.ort == [{ entry 1 .fenced with keepKey := false }]) ∧
    becomes (.executorAccessSend .s0) (held (resetWriting (unsent (.write 0x040 0xF 0x80))))
      (fun p => p.seq.held && p.traffic.linkSent == [.cfgWrite 0xFFFF 3 0x040 0xF 0x80]) ∧
    unchanged (.executorAccessSend .s0) (resetWriting Executor.default) ∧
    unchanged (.executorAccessSend .s0) (unlinked (resetWriting (unsent (.read 0)))) ∧
    unchanged (.executorAccessSend .s0) (resetWriting (accessing (.write 0x040 0xF 0x80))) ∧
    becomes (.functionResetReissue .s0)
      { resetWriting Executor.default with
        seq := { (resetWriting Executor.default).seq with reissueTimer := some 0 } }
      (fun p => p.exec.inFlight == some { tag := 0, request := .write 0x040 0xF 0x80, onLink := false } && p.exec.nextTag == 1) ∧
    becomes (.stepReissue .s0) (restoring [.write 4 0x3 9] { Executor.default with reissueTimer := some 0 })
      (fun p => p.exec.inFlight.map Access.request == some (.write 4 0x3 9)) ∧
    becomes (.stepReissue .s0) (restoring [.verify 8 1 1] { Executor.default with reissueTimer := some 0 })
      (fun p => p.exec.inFlight.map Access.request == some (.read 8)) ∧
    becomes (.pollIntervalRunsOut .s0) (restoring [.poll 8 1 1 5] { Executor.default with intervalTimer := some 0 })
      (fun p => p.exec.inFlight.map Access.request == some (.read 8) && p.exec.intervalTimer.isNone) := by
  decide

/-- A card's answer to the executor's access with tag 3. -/
def answer3 (st : Status) (data : List Byte) : Transaction := .answer 0xFFFF 3 st data.length data.length data

theorem test_hyps_ExecutorAnswers :
    let take (p : Slot) (tx : Transaction) (f : Slot → Bool) : Bool := becomes (.receiveQueueTake .s0 false) (received p [tx]) f
    take (restoring [.pause 1] Executor.default) (answer3 .ok []) (fun p => p.seq.phase == some .restoring) ∧
    take { elapsed .settle .slot with exec := accessing (.read 0) } (answer3 .ok [1, 0, 0, 0]) (fun p => p.exec.inFlight.isNone) ∧
    take (resetWriting (accessing (.write 0x040 0xF 0x80))) (answer3 .ok []) (fun p => p.seq.phase == some .settle) ∧
    take (resetWriting (accessing (.write 0x040 0xF 0x80))) (answer3 .retry []) (fun p => p.seq.reissueTimer == some 1024) ∧
    take (resetWriting (accessing (.write 0x040 0xF 0x80))) (answer3 .abort [])
      (fun p => p.seq.attempts.function == 1 && p.seq.phase == some .resetAssert) ∧
    take (restoring [.write 0 0xF 1] (accessing (.write 0 0xF 1))) (answer3 .ok []) (fun p => p.seq.state == .probation) ∧
    take (restoring [.write 0 0xF 1] (accessing (.write 0 0xF 1))) (answer3 .retry []) (fun p => p.exec.reissueTimer == some 1024) ∧
    take (restoring [.verify 0 0xFF 1] (accessing (.read 0))) (answer3 .ok [1, 9, 0, 0]) (fun p => p.seq.state == .probation) ∧
    take (restoring [.verify 0 0xFF 1] (accessing (.read 0))) (answer3 .ok [2, 0, 0, 0]) (fun p => p.seq.attempts.slot == 1) ∧
    take (restoring [.poll 0 0xFF 1 5] (accessing (.read 0))) (answer3 .ok [2, 0, 0, 0]) (fun p => p.exec.intervalTimer == some 1024) ∧
    ((restoring [.verify 0 1 1] (accessing (.read 0))).seq.phase = some .restoring ∧
      (restoring [.verify 0 1 1] (accessing (.read 0))).script.active[0]? = some (.verify 0 1 1) ∧
      ([1, 2, 3] : List Byte).length < 4) := by
  decide

/-! ### KILL, removal, insertion, ticks, trunk resets: hypotheses of O46 to O49 -/

theorem test_hyps_KillEdges :
    (({ base with kill := true } : State).kill = true ∧ base.kill = false) ∧
    gives (exec .killDeassert { base with kill := true }) (fun t => !t.kill && t.notices.summary.killChange) ∧
    (inService.Sound ∧ inService.kill = false ∧
      gives (exec (.killAssert SlotId.all) inService) (fun t =>
        (t.slot .s0).seq.state == .draining && (t.slot .s0).seq.drainTimer == some 10240 && t.sequence == 1 && (t.slot .s1).seq.state == .fenced && (t.slot .s2).current.further == 0x40 &&
        (t.slot .s3).seq.state == .fenced)) ∧
    (returning.Sound ∧ returning.kill = false ∧
      gives (exec (.killAssert SlotId.all) returning) (fun t =>
        (t.slot .s0).seq.state == .fenced && (t.slot .s0).seq.attempts.slot == 1 && (t.slot .s1).seq.state == .offline &&
        (t.slot .s2).seq.state == .retired && t.slot .s3 == returning.slot .s3)) :=
  ⟨by decide, by decide, ⟨inService_sound, by decide, by decide⟩, returning_sound, by decide, by decide⟩

/-- KILL closes both gates of a serving slot, and the new incident counts the stage's card request. -/
theorem test_kill_closes_gates :
    becomes (.killAssert []) { busySlot with traffic := { busySlot.traffic with stage := some write, sendQueue := [write, read 5] } }
      (fun p => p.traffic.stage.isNone && p.traffic.sendQueue == [read 5] && p.counters.droppedWrites == 1 &&
        p.counters.droppedCardRequests == 1 && p.current.dropped == 1) := by
  decide

theorem test_hyps_RemovalAndInsertion :
    (∀ i, (sole busySlot).railA.holder = some i → i.rail = .a) ∧ (sole busySlot).railA.waiting = none ∧
    unchanged (.removal .s0) (Slot.powerOn true false true) ∧
    becomes (.removal .s0) (holding (recovering .fenced none none none) [entry 1 .fenced, entry 2 .tombstone])
      (fun p => p.seq.state == .empty && p.current.outcome == .removed && p.lines.slotReset && !p.lines.powerEnable &&
        p.traffic.ort == [{ entry 1 .fenced with keepKey := false }]) ∧
    becomes (.removal .s0) busySlot
      (fun p => p.seq.state == .empty && p.current.firstCause == .removal && p.current.outcome == .removed &&
        p.traffic.ort == [{ entry 1 .fenced with keepKey := false }]) ∧
    unchanged (.insertion .s0) up ∧
    becomes (.insertion .s0) (Slot.powerOn true false true) (fun p => p.seq.state == .offline && p.lines.present) := by
  decide

theorem test_hyps_TickEndCounts :
    becomes .tickEnd { busySlot with detect := { busySlot.detect with stallCount := 1 } }
      (fun p => p.detect.stallCount == 0 && p.detect.stallDue) ∧
    becomes .tickEnd online (fun p => p.detect == online.detect) ∧
    becomes .tickEnd (draining 5) (fun p => p.seq.drainTimer == some 4) ∧
    becomes .tickEnd (held (draining 5)) (fun p => p.seq.drainTimer == some 5) ∧
    gives (exec .tickEnd { base with time := { Timebase.default with now := 0xFFFFFFFF, prescale := 9 } })
      (fun t => t.time.now == 0 && t.time.tickPrescale == 9) := by
  decide

theorem test_hyps_TrunkResetLoses :
    ((∀ i, (returning.slot i).seq.state ≠ .draining) ∧ returning.resetScope = none ∧
      gives (exec (.trunkReset SlotId.all) returning) (fun t => t.saq == [] && !t.trunkUp && t.lastServed == .mgt)) ∧
    (inService.Sound ∧
      (inService.slot .s1).seq.state = .draining ∧ (inService.slot .s1).current.firstCause = .trip .stall ∧
      (inService.slot .s1).seq.plan.autoCauses.getLsbD TripCause.stall.number = true ∧
      gives (exec (.trunkReset SlotId.all) inService) (fun t => t.debt == 0 && (t.slot .s1).seq.state == .recovering)) ∧
    (draining2.Sound ∧ (draining2.slot .s0).current.kind = .admission ∧ (draining2.slot .s1).current.kind = .fault ∧
      (draining2.slot .s1).current.firstCause = .trip .external ∧
      gives (exec (.trunkReset [.s1]) draining2) (fun t =>
        (t.slot .s0).seq.state == .offline && (t.slot .s0).current.outcome == .failed &&
        (t.slot .s1).seq.state == .fenced && (t.slot .s1).current.outcome == .pending)) ∧
    (resetting.Sound ∧ resetting.resetScope.isSome = true ∧
      gives (exec (.trunkReset SlotId.all) resetting) (fun t => t.resetScope.isNone && t.mailbox.state == .idle)) ∧
    gives (exec .trunkUp { base with trunkUp := false }) (fun t => t.trunkUp) :=
  ⟨⟨forall_slot (by decide) (by decide) (by decide) (by decide), by decide, by decide⟩,
    ⟨inService_sound, by decide, by decide, by decide, by decide⟩,
    ⟨draining2_sound, by decide, by decide, by decide, by decide⟩, ⟨resetting_sound, by decide, by decide⟩, by decide⟩

/-- A trunk reset that closes an incident sets its summary bit and leaves no notice unsent. -/
theorem test_trunk_reset_presents_nothing :
    gives (exec (.trunkReset SlotId.all) { sole (admitted (draining 5)) with
        notices := { Notices.default with enabled := true, address := 0x8000 } }) (fun t =>
      t.notices.summary.slots.s0 && !t.notices.unsent && t.presenting.isNone && t.waitingAnswer.isNone &&
        (t.slot .s0).current.outcome == .failed) := by
  decide

/-! ### Mailbox commands: hypotheses of O50 to O60. `go_ready` and `go_names` give the first two of each. -/

/-- The base state with a GO for slot S0. -/
def asked (code : Nat) (params : List Nat) : State := go code 0 params base

/-- A command completes with this result and these first response dwords. -/
def replies (c : Instr) (s : State) (r : Result) (data : List Nat) : Bool :=
  gives (exec c s) fun t =>
    t.mailbox.state == .done && t.mailbox.result == r &&
      (List.range data.length).all fun k => t.mailbox.response.toList.getD k 0 == BitVec.ofNat 32 (data.getD k 0)

/-- Every mailbox obligation's premises on the GO hold of `go`, whatever command, slot and parameters. -/
theorem test_hyps_GoReady (code : Nat) (i : SlotId) (params : List Nat) (p : Slot) (hc : code < 256) :
    (go code i.toNat params (sole p)).GoReady 0x0100 7 code ∧ (go code i.toNat params (sole p)).NamesSlot i :=
  ⟨go_ready _ code _ params hc rfl (fun h => by cases h), go_names _ code i params hc⟩

theorem test_hyps_WindowStaged :
    replies .setWindow (go 0x01 4 [16] base) .badSlot [] ∧ replies .setWindow (asked 0x01 [16]) .badIndex [] ∧
    replies .setWindow (asked 0x01 [0x70F, 0x5000, 0, 0x5FFF, 0]) .ok [0x70F, 0x5000, 0, 0x5FFF, 0] ∧
    replies .setWindow (asked 0x01 [0x100, 0x5001, 0, 0x4FFF, 0]) .clamped [0x100, 0x5000, 0, 0x5FFF, 0] ∧
    gives (exec .setWindow (go 0x01 1 [0x70F, 0x5000, 0, 0x5FFF, 0] base)) (fun t =>
      t.windowStaging[15] == windowOf 0x5000 0x5FFF .s1 true && t.windowActive == defaultWindows) := by
  decide

theorem test_hyps_TablesSet :
    gives (exec .commitWindows { asked 0x02 [] with windowStaging := windowed.windowActive })
      (fun t => t.windowActive == windowed.windowActive) ∧
    replies .setSlotBus (asked 0x03 [255]) .ok [255] ∧ replies .setSlotBus (asked 0x03 [256]) .clamped [255] ∧
    replies .setMonitor (asked 0x0A [100, 1, 255, 15]) .ok [100, 1, 255, 15] ∧
    replies .setMonitor (asked 0x0A [99, 0, 256, 16]) .clamped [100, 1, 255, 15] ∧
    gives (exec .setMonitor (asked 0x0A [100, 1, 255, 15])) (fun t => (t.slot .s0).detect.stallCount == 100) ∧
    replies .setVisit (asked 0x0B [15]) .clamped [16] ∧ replies .setVisit (asked 0x0B [4095]) .ok [4095] ∧
    replies .setTimebase (asked 0x0C [8]) .clamped [9, 0] ∧ replies .setTimebase (asked 0x0C [65535]) .ok [65535, 0] := by
  decide

/-- The default plan in the layout of P0 to P7 (R177). -/
def planWords : List Nat :=
  [0x001210C2, 0x3F, 0, 0x0064000A, 0x01F403E8, 0x03E80064, 0x00320064, 0x1388]

theorem test_hyps_PlanSet :
    replies .setPlan (asked 0x08 planWords) .ok planWords ∧
    gives (exec .setPlan (asked 0x08 planWords)) (fun t => (t.slot .s0).seq.plan == Plan.default) ∧
    replies .setPlan (asked 0x08 (0x001210C0 :: planWords.tail)) .planInvalid [] ∧
    replies .setPlan (asked 0x08 (0x001210C1 :: planWords.tail)) .planInvalid [] ∧
    replies .setPlan (asked 0x08 (0x001211C1 :: 0x0042003F :: 0x80 :: planWords.drop 3)) .clamped
      [0x001211C1, 0x0040003F, 0x80] ∧
    replies .setPlan (asked 0x08 (0x001200C2 :: planWords.tail)) .clamped planWords ∧
    replies .setPlan (asked 0x08 (0x001210C2 :: 0x13F :: planWords.drop 2)) .planInvalid [] := by
  decide

theorem test_hyps_LimitsSet :
    replies .setLimits (go 0x09 4 [2] base) .badSlot [] ∧ replies .setLimits (asked 0x09 [2, 1, 1, 4, 0]) .badIndex [] ∧
    replies .setLimits (asked 0x09 [0, 1, 1, 4, 0]) .ok [1, 1, 4, 0] ∧
    replies .setLimits (asked 0x09 [0, 0, 0, 3, 256]) .clamped [1, 1, 4, 255] ∧
    replies .setLimits (asked 0x09 [0, 65536, 65535, 255, 255]) .clamped [65535, 65535, 255, 255] ∧
    replies .setLimits (asked 0x09 [1, 5, 65535, 255, 77]) .ok [5, 65535, 255, 0] ∧
    gives (exec .setLimits { asked 0x09 [1, 5, 9, 4, 0] with
      slots := base.slots.set .s0 { up with deadlines := unitOf Limits.memDefault 800 6400 8 } }) (fun t =>
        (t.slot .s0).deadlines.cfgEst == { est16 := 0, samples := 0 } && (t.slot .s0).deadlines.memEst.est16 == 800) := by
  decide

/-- A GO for S0, S0 with these two staging steps. -/
def scripted (code : Nat) (params : List Nat) (p : Slot) : State :=
  let staging := (ScriptStore.default.staging.set 0 (.write 4 0xF 1)).set 1 (.pause 7)
  go code 0 params (sole { p with script := { p.script with staging := staging, stagingLength := 2 } })

theorem test_hyps_ScriptsEdited :
    replies .loadStep (asked 0x10 [64]) .badIndex [] ∧ replies .loadStep (asked 0x10 [0x400]) .badIndex [] ∧
    replies .loadStep (asked 0x10 [63, 4092, 0xF, 9]) .ok [63, 4092, 0xF, 9, 0] ∧
    replies .loadStep (asked 0x10 [0x100, 4096, 1, 2]) .clamped [0x100, 4092, 1, 2, 0] ∧
    replies .loadStep (asked 0x10 [0x200, 6, 1, 2, 1000]) .clamped [0x200, 4, 1, 2, 1000] ∧
    replies .loadStep (asked 0x10 [0x300, 5, 5, 5, 0]) .clamped [0x300, 0, 0, 0, 1] ∧
    replies .setScriptLength (asked 0x11 [64]) .ok [64] ∧ replies .setScriptLength (asked 0x11 [65]) .clamped [64] ∧
    gives (exec .setScriptLength (scripted 0x11 [1] up)) (fun t =>
      (t.slot .s0).script.staging[0] == .write 4 0xF 1 && (t.slot .s0).script.staging[1] == .pause 1) ∧
    gives (exec .commitScript (scripted 0x12 [] up)) (fun t => (t.slot .s0).script.active == [.write 4 0xF 1, .pause 7]) ∧
    gives (exec .commitScript (scripted 0x12 [] (restoring [.pause 1] Executor.default))) (fun t =>
      (t.slot .s0).script.active == [.pause 1] && (t.slot .s0).script.commitPending && t.mailbox.result == .deferred) ∧
    gives (exec .capture (scripted 0x13 [1] { up with script := { up.script with overflow := true } }))
      (fun t => (t.slot .s0).script.capture && !(t.slot .s0).script.overflow) := by
  decide

/-- A staging copy of this length with capture on, a WRITE step at position 0. -/
def capturing (n : Nat) : ScriptStore :=
  { ScriptStore.default with
    staging := ScriptStore.default.staging.set 0 (.write 4 0x1 0x11), stagingLength := n, capture := true }

theorem test_hyps_CaptureMerges :
    (ScriptStore.default.capture = false ∧ ScriptStore.default.captureWrite 4 0xF 1 = ScriptStore.default) ∧
    (capturing 1).captureWrite 4 0 1 = capturing 1 ∧
    ((capturing 1).staging[0] = .write 4 0x1 0x11 ∧
      ((capturing 1).captureWrite 4 0x2 0x2200).staging[0] = .write 4 0x3 0x2211) ∧
    (((capturing 63).captureWrite 8 0xF 7).staging[63] = .write 8 0xF 7 ∧
      ((capturing 63).captureWrite 8 0xF 7).stagingLength = 64) ∧
    (capturing 64).captureWrite 8 0xF 7 = { capturing 64 with overflow := true } := by
  decide

theorem test_hyps_BringUpBegins :
    let fenced := recovering .fenced none none none
    let dark : Slot := { up with lines := { up.lines with powerEnable := false } }
    gives (exec .admitSlot (go 0x18 0 [] (sole up))) (fun t =>
      (t.slot .s0).seq.phase == some .resetAssert && (t.slot .s0).current.kind == .admission && t.mailbox.response[0] == 1) ∧
    gives (exec .admitSlot (go 0x18 0 [] (sole dark))) (fun t => (t.slot .s0).seq.phase == some .powerOff && t.railA.holder == some .s0) ∧
    gives (exec .admitSlot (go 0x18 0 [] { sole dark with railA := { holder := some .s1, waiting := none } }))
      (fun t => (t.slot .s0).seq.phase == some .railWait) ∧
    replies .admitSlot (go 0x18 0 [] { sole up with kill := true }) .wrongState [] ∧
    replies .admitSlot (go 0x18 0 [] (sole fenced)) .wrongState [] ∧
    replies .recover (go 0x1A 0 [] (sole fenced)) .ok [0x00640225] ∧
    gives (exec .recover (go 0x1A 0 [] (sole (admitted fenced)))) (fun t => (t.slot .s0).seq.phase == some .resetAssert) ∧
    replies .recover (go 0x1A 0 [] (sole up)) .wrongState [] := by
  decide

theorem test_hyps_SequencerCommanded :
    let fenced := recovering .fenced none none none
    let withheld (p : Slot) : Slot := { held p with exec := { p.exec with withheld := true } }
    gives (exec .hold (go 0x1B 0 [] (sole (draining 5)))) (fun t => (t.slot .s0).seq.held) ∧
    replies .hold (go 0x1B 0 [] (sole fenced)) .wrongState [] ∧
    gives (exec .resume (go 0x1C 0 [] (sole (held (draining 5))))) (fun t => !(t.slot .s0).seq.held) ∧
    gives (exec .resume (go 0x1C 0 [] (sole (withheld (resetWriting Executor.default)))))
      (fun t => (t.slot .s0).exec.inFlight.map Access.request == some (.write 0x040 0xF 0x80)) ∧
    gives (exec .resume (go 0x1C 0 [] (sole (withheld (restoring [.verify 8 1 1] { Executor.default with step := some 0 })))))
      (fun t => (t.slot .s0).exec.inFlight.map Access.request == some (.read 8)) ∧
    replies .resume (go 0x1C 0 [] (sole fenced)) .wrongState [] ∧
    gives (exec .abort (go 0x1D 0 [] (sole (draining 5)))) (fun t =>
      (t.slot .s0).seq.state == .fenced && (t.slot .s0).current.outcome == .pending && !(t.slot .s0).lines.slotReset) ∧
    gives (exec .abort (go 0x1D 0 [] (sole (elapsed .linkWait .slot)))) (fun t =>
      (t.slot .s0).seq.state == .fenced && (t.slot .s0).seq.attempts.slot == 0 && (t.slot .s0).lines.slotReset) ∧
    gives (exec .abort (go 0x1D 0 [] (sole (recovering .probation none (some .slot) none))))
      (fun t => (t.slot .s0).seq.state == .fenced) ∧
    replies .abort (go 0x1D 0 [] (sole up)) .wrongState [] ∧
    gives (exec .retire (go 0x1E 0 [] (sole fenced))) (fun t =>
      (t.slot .s0).seq.state == .retired && (t.slot .s0).current.outcome == .retired && (t.slot .s0).lines.powerEnable) ∧
    replies .retire (go 0x1E 0 [] (sole up)) .wrongState [] ∧
    gives (exec .release (go 0x1F 0 [] (sole fenced))) (fun t =>
      (t.slot .s0).seq.state == .offline && (t.slot .s0).current.outcome == .aborted) ∧
    replies .release (go 0x1F 0 [] (sole up)) .wrongState [] := by
  decide

theorem test_hyps_ManagementReads :
    replies .querySlot (go 0x20 0 [] (sole (held (draining 1025)))) .ok [0x00021003, 0, 1] ∧
    replies .querySlot (go 0x20 0 [] (sole (restoring [.pause 2] { Executor.default with
      step := some 0, stepTimer := some 9999, pauseTimer := some 1024 }))) .ok [0x00010295] ∧
    replies .readIncident (go 0x21 0 [2] base) .badIndex [] ∧
    replies .readIncident (go 0x21 0 [0] (sole (recovering .fenced none none none))) .ok [0x01100001, 0, 0, 0, 0, 0, 0, 0, 0, 0, 0] ∧
    replies .readIncident (go 0x21 0 [1] base) .ok [0, 0] ∧
    replies .readCounters (go 0x22 0 [3] base) .badIndex [] ∧
    gives (exec .readCounters (go 0x22 0 [1] (sole { up with counters := { SlotCounters.zero with stale := 7 } })))
      (fun t => t.mailbox.response[2] == 7 && (t.slot .s0).counters == SlotCounters.zero) ∧
    gives (exec .readCounters { go 0x22 0 [2] base with counters := { unrouted := 1, rights := 2, notices := 3 } })
      (fun t => t.mailbox.response[10] == 3 && t.counters == PartCounters.zero) := by
  decide

/-- A GO with a summary bit of S0 set, and the notices armed or not, one unsent or not. -/
def noticing (code : Nat) (params : List Nat) (armed unsent : Bool) : State :=
  { asked code params with
    notices :=
      { summary := { Summary.clear with slots := { s0 := true, s1 := false, s2 := false, s3 := false } }
        enabled := armed, address := 0x8000, unsent := unsent }
    presenting := if unsent then some .notice else none }

theorem test_hyps_NoticesManaged :
    replies .setNotice (noticing 0x28 [0x8003, 1, 1] true true) .clamped [0x8000, 1, 1] ∧
    gives (exec .setNotice (noticing 0x28 [0x8000, 0, 1] false false))
      (fun t => t.notices.unsent && t.presenting == some .answer) ∧
    gives (exec .setNotice (noticing 0x28 [0x8000, 0, 1] true true)) (fun t => t.notices.unsent && t.presenting == some .notice) ∧
    gives (exec .setNotice (noticing 0x28 [0, 0, 1] true true)) (fun t => !t.notices.unsent && t.presenting == some .answer) ∧
    gives (exec .ackNotices (noticing 0x29 [1] true true)) (fun t =>
      !t.notices.unsent && t.presenting == some .answer && t.mailbox.response[0] == 0) ∧
    gives (exec .ackNotices (noticing 0x29 [0x1E] true true)) (fun t =>
      t.notices.unsent && t.presenting == some .notice && t.mailbox.response[0] == 1) := by
  decide

theorem test_hyps_PartResets :
    (gives (exec .resetPart (go 0x3F 0 [] (sole busySlot))) (fun t =>
      t.mailbox.state == .busy && t.resetScope.isSome && (t.slot .s0).seq.state == .offline &&
      (t.slot .s0).traffic.ort == [entry 1 .fenced])) ∧
    gives (exec .resetPart (go 0x3F 0 [] { sole (draining 5) with
        notices := { Notices.default with enabled := true, address := 0x8000 } })) (fun t =>
      t.mailbox.state == .busy && (t.slot .s0).current.outcome == .aborted && t.notices.summary.slots.s0 &&
      !t.notices.summary.slots.s1 && t.notices.unsent && t.presenting == some .answer) ∧
    gives (exec .resetPart (go 0x3F 0 [] (sole up))) (fun t => t.mailbox.state == .done && t.resetScope.isNone) ∧
    (base.resetScope = none ∧ gives (exec .resetPartEnd base) (fun t => t == base)) ∧
    gives (exec .resetPartEnd resetting) (fun t => t == resetting) ∧
    gives (exec .resetPartEnd { resetting with slots := base.slots }) (fun t =>
      t.mailbox.state == .done && t.resetScope.isNone && t.presenting == some .answer) := by
  decide

end Sys2Proof.Tests
end

/-! SUPPORT. Transaction routing (chapter 1): how ingress classifies memory requests and messages, how it disposes of
unrouted heads, and what SET WINDOW stages. -/

namespace Sys2Proof.Machine

/-! ### The two ingress events -/

/-- INGRESS_CLASSIFY with the trunk up and no head held (R3). -/
theorem exec_ingressClassify_free {s : State} (tx : Transaction) (hup : s.trunkUp = true) (hfree : s.head = none) :
    exec (.ingressClassify tx) s = .next { s with head := some { tx := tx, dest := s.classify tx } } := by
  simp [exec, execIngressClassify, hup, hfree]

/-- INGRESS_TAKE of a head for the Management Function (R4, R5). -/
theorem exec_ingressTake_management {s : State} {tx : Transaction}
    (hhead : s.head = some { tx := tx, dest := .management }) :
    exec .ingressTake s = .next (s.takeManagement tx) := by
  simp [exec, execIngressTake, hhead]

/-- One more unrouted request of the part, or one more rights violation, by the destination (R13). -/
def State.countDisposed (dest : Destination) (s : State) : State :=
  { s with counters := if dest = .unrouted then
      { s.counters with unrouted := min 4294967295 (s.counters.unrouted + 1) }
    else { s.counters with rights := min 4294967295 (s.counters.rights + 1) } }

/-- INGRESS_TAKE of an unrouted or refused head: the synthetic path, with the destination's own count (R13). -/
theorem exec_ingressTake_synthetic {s : State} {tx : Transaction} {dest : Destination}
    (hhead : s.head = some { tx := tx, dest := dest }) (hdest : dest = .unrouted ∨ dest = .refused) :
    exec .ingressTake s = .next (s.takeSynthetic tx (State.countDisposed dest)) := by
  obtain rfl | rfl := hdest
  · have hcount : State.countUnrouted = State.countDisposed .unrouted := rfl
    simp [exec, execIngressTake, hhead, hcount]
  · have hcount : State.countRights = State.countDisposed .refused := rfl
    simp [exec, execIngressTake, hhead, hcount]

/-! ### Memory requests and the Window Table (R7, R8) -/

/-- What the search of the Window Table looks for: a valid window whose range holds the byte. -/
theorem Window.valid_and_contains_iff (w : Window) (n : Nat) :
    (w.valid && w.contains n) = true ↔ w.valid = true ∧ w.base.toNat ≤ n ∧ n ≤ w.limit.toNat := by
  simp [Window.contains]

/-- No window reaches beyond the top of the address space. -/
theorem Window.contains_beyond_top (w : Window) {n : Nat} (h : 2 ^ 64 ≤ n) : w.contains n = false := by
  have hlimit := w.limit.isLt
  simp only [Window.contains, decide_eq_false_iff_not]
  omega

/-- With no valid window around the first byte there is no matching window. -/
theorem State.matchingWindow_eq_none {s : State} {a : Address}
    (h : ∀ k : Fin 16, ¬(s.windowActive[k].valid = true ∧ s.windowActive[k].base.toNat ≤ a.toNat ∧
      a.toNat ≤ s.windowActive[k].limit.toNat)) : s.matchingWindow a = none := by
  rw [State.matchingWindow, List.find?_eq_none]
  intro w hw
  obtain ⟨k, hk, rfl⟩ := List.mem_iff_getElem.1 hw
  rw [Window.valid_and_contains_iff, Vector.getElem_toList]
  exact h ⟨k, by simpa using hk⟩

/-- The matching window is the valid one around the first byte that has none below it. -/
theorem State.matchingWindow_eq_some {s : State} {a : Address} (k : Fin 16)
    (hk : s.windowActive[k].valid = true ∧ s.windowActive[k].base.toNat ≤ a.toNat ∧
      a.toNat ≤ s.windowActive[k].limit.toNat)
    (hlow : ∀ j : Fin 16, j < k → ¬(s.windowActive[j].valid = true ∧ s.windowActive[j].base.toNat ≤ a.toNat ∧
      a.toNat ≤ s.windowActive[j].limit.toNat)) : s.matchingWindow a = some s.windowActive[k] := by
  rw [State.matchingWindow, List.find?_eq_some_iff_getElem]
  refine ⟨(Window.valid_and_contains_iff ..).2 hk, k, by simp, by simp, fun j hj => ?_⟩
  have hnot := hlow ⟨j, hj.trans k.isLt⟩ hj
  rw [← Window.valid_and_contains_iff, Bool.not_eq_true] at hnot
  simpa only [Vector.getElem_toList, Bool.not_eq_true', Fin.getElem_fin] using hnot

/-- A request whose last byte lies beyond the top of the address space is unrouted, whatever window matches. -/
theorem State.windowDestination_beyond_top (s : State) (a : Address) (len : Nat) (right : Window → Bool)
    (h : 2 ^ 64 ≤ lastByte a len) : s.windowDestination a len right = .unrouted := by
  unfold State.windowDestination
  cases s.matchingWindow a with
  | none => rfl
  | some w => simp [w.contains_beyond_top h]

/-- With a matching window the last byte decides whether the request is routed, and the right whether it is refused. -/
theorem State.windowDestination_of_matching {s : State} {a : Address} {w : Window} {len : Nat} (right : Window → Bool)
    (hw : s.matchingWindow a = some w) (hbase : w.base.toNat ≤ a.toNat) (hlen : 1 ≤ len) :
    s.windowDestination a len right =
      if a.toNat + 4 * len - 1 ≤ w.limit.toNat then if right w = true then .slot w.slot else .refused
      else .unrouted := by
  have hstart : w.base.toNat ≤ a.toNat + 4 * len - 1 := by omega
  simp [State.windowDestination, hw, Window.contains, lastByte, hstart]

/-- A read of another requester goes by the Window Table and the read right. -/
theorem State.classify_memRead (s : State) {r : Requester} (t : Tag) (a : Address) (len : Nat) (hr : r ≠ 0xFFFF) :
    s.classify (.memRead r t a len) = s.windowDestination a len Window.readRight := by
  have hother : ¬requesterOf (.memRead r t a len) = some ownRequester := fun h => hr (Option.some.inj h)
  rw [State.classify, if_neg hother]

/-- A write of another requester goes by the Window Table and the write right. -/
theorem State.classify_memWrite (s : State) {r : Requester} (a : Address) (len : Nat) (data : List Dword)
    (hr : r ≠ 0xFFFF) : s.classify (.memWrite r a len data) = s.windowDestination a len Window.writeRight := by
  have hother : ¬requesterOf (.memWrite r a len data) = some ownRequester := fun h => hr (Option.some.inj h)
  rw [State.classify, if_neg hother]

/-- Settles O19: the destination is `windowDestination`, whose clauses follow from what the Window Table's search
finds. -/
theorem memoryRequestsByWindow : Obligations.MemoryRequestsByWindow := by
  intro s tx r a len right hkind hup hfree hr hlen
  have hclass : s.classify tx = s.windowDestination a len right := by
    obtain ⟨⟨t, rfl⟩, rfl⟩ | ⟨⟨data, rfl⟩, rfl⟩ := hkind
    · exact s.classify_memRead t a len hr
    · exact s.classify_memWrite a len data hr
  refine ⟨s.windowDestination a len right, ?_, fun hnone => ?_, s.windowDestination_beyond_top a len right,
    fun k hvalid hbase hlimit hlow => ?_⟩
  · rw [exec_ingressClassify_free tx hup hfree, hclass]
  · rw [State.windowDestination, State.matchingWindow_eq_none hnone]
  · exact State.windowDestination_of_matching right (State.matchingWindow_eq_some k ⟨hvalid, hbase, hlimit⟩ hlow)
      hbase hlen

/-! ### SET WINDOW (R9) -/

/-- The bits of an address put together from a page and an offset in it. -/
theorem getLsbD_page_append (a : Address) (offset : BitVec 12) (b : Nat) (hb : b < 64) :
    (a.extractLsb' 12 52 ++ offset : Address).getLsbD b = if b < 12 then offset.getLsbD b else a.getLsbD b := by
  have happend : (a.extractLsb' 12 52 ++ offset : BitVec (52 + 12)).getLsbD b =
      if b < 12 then offset.getLsbD b else (a.extractLsb' 12 52).getLsbD (b - 12) := BitVec.getLsbD_append
  rw [happend]
  split
  · rfl
  · next hhigh =>
    have hpage : b - 12 < 52 := by omega
    rw [BitVec.getLsbD_extractLsb', decide_eq_true hpage, Bool.true_and, Nat.add_sub_of_le (Nat.le_of_not_lt hhigh)]

/-- The bits SET WINDOW clears in a base and sets in a limit are the low twelve. -/
theorem getLsbD_pageMask (b : Nat) : (0xFFF : Address).getLsbD b = decide (b < 12) := by
  rw [show (0xFFF : Address) = (BitVec.allOnes 12).setWidth 64 from rfl, BitVec.getLsbD_setWidth, BitVec.getLsbD_allOnes]
  simp only [Bool.and_eq_right_iff_imp, decide_eq_true_eq]
  omega

/-- A base keeps its page and goes to that page's start. -/
theorem alignBase_eq (a : Address) : alignBase a = a.extractLsb' 12 52 ++ (0 : BitVec 12) := by
  apply BitVec.eq_of_getLsbD_eq
  intro b hb
  rw [getLsbD_page_append a _ b hb, alignBase, BitVec.getLsbD_and, BitVec.getLsbD_not, getLsbD_pageMask]
  by_cases hlow : b < 12 <;> simp [hlow, hb]

/-- A limit keeps its page and goes to that page's end. -/
theorem alignLimit_eq (a : Address) : alignLimit a = a.extractLsb' 12 52 ++ (0xFFF : BitVec 12) := by
  apply BitVec.eq_of_getLsbD_eq
  intro b hb
  rw [getLsbD_page_append a _ b hb, alignLimit, BitVec.getLsbD_or, getLsbD_pageMask,
    show (0xFFF : BitVec 12) = BitVec.allOnes 12 from rfl, BitVec.getLsbD_allOnes]
  by_cases hlow : b < 12 <;> simp [hlow]

/-- The start of a page lies in that page. -/
theorem alignLimit_alignBase (a : Address) : alignLimit (alignBase a) = alignLimit a := by
  apply BitVec.eq_of_getLsbD_eq
  intro b hb
  simp only [alignLimit, alignBase, BitVec.getLsbD_or, BitVec.getLsbD_and, BitVec.getLsbD_not]
  cases (0xFFF : Address).getLsbD b <;> simp [hb]

/-- The base SET WINDOW stages is the start of the page asked for. -/
theorem settleRange_fst (base limit : Address) :
    (settleRange base limit).1 = base.extractLsb' 12 52 ++ (0 : BitVec 12) := alignBase_eq base

/-- The limit SET WINDOW stages is its page's end, or the base's page end where it would lie below the base. -/
theorem settleRange_snd (base limit : Address) :
    (settleRange base limit).2 =
      let newBase : Address := base.extractLsb' 12 52 ++ (0 : BitVec 12)
      let raised : Address := limit.extractLsb' 12 52 ++ (0xFFF : BitVec 12)
      if raised.toNat < newBase.toNat then base.extractLsb' 12 52 ++ (0xFFF : BitVec 12) else raised := by
  simp only [← alignBase_eq, ← alignLimit_eq, settleRange, alignLimit_alignBase, BitVec.lt_def]

/-- SET WINDOW reports CLAMPED where it changed the base or the limit (R9, R171). -/
theorem okOrClamped_range (base limit newBase newLimit : Address) :
    okOrClamped (newBase != base || newLimit != limit) =
      if newBase = base ∧ newLimit = limit then .ok else .clamped := by
  by_cases hbase : newBase = base <;> by_cases hlimit : newLimit = limit <;> simp [okOrClamped, hbase, hlimit]

/-- The first dword of the response holds the index, the valid flag and the two rights. -/
theorem windowFlags_toNat (index : Nat) (valid readRight writeRight : Bool) (h : index < 256) :
    (place 0 8 index ||| placeBit 8 valid ||| placeBit 9 readRight ||| placeBit 10 writeRight).toNat =
      index + 256 * valid.toNat + 512 * readRight.toNat + 1024 * writeRight.toNat := by
  have hindex : (place 0 8 index).toNat = index := by
    rw [place_toNat 0 8 index (by decide)]
    omega
  have hv := valid.toNat_le
  have hr := readRight.toNat_le
  have hvalid : (place 0 8 index ||| placeBit 8 valid).toNat = index + 256 * valid.toNat := by
    rw [or_placeBit_toNat _ 8 valid (by omega) (by decide), hindex]
    omega
  have hread : (place 0 8 index ||| placeBit 8 valid ||| placeBit 9 readRight).toNat =
      index + 256 * valid.toNat + 512 * readRight.toNat := by
    rw [or_placeBit_toNat _ 9 readRight (by omega) (by decide), hvalid]
    omega
  rw [or_placeBit_toNat _ 10 writeRight (by omega) (by decide), hread]
  omega

/-- The window SET WINDOW stages for a slot: the parameters' flags and the settled range. -/
def State.requestedWindow (s : State) (i : SlotId) : Window :=
  let settled := settleRange (addressOf (s.param 1) (s.param 2)) (addressOf (s.param 3) (s.param 4))
  { valid := bit (s.param 0) 8, base := settled.1, limit := settled.2, slot := i,
    readRight := bit (s.param 0) 9, writeRight := bit (s.param 0) 10 }

/-- The event of SET WINDOW is its effect on the state the GO leaves. -/
theorem exec_setWindow {s : State} {r : Requester} {t : Tag} (h : s.GoReady r t 0x01) :
    exec .setWindow s = .next (s.afterGo r t).setWindow.complete := by
  rw [← h.runGo fun u => u.setWindow.complete]
  rfl

/-- A slot field above 3 is refused with BAD_SLOT (R171). -/
theorem exec_setWindow_badSlot {s : State} {r : Requester} {t : Tag} (h : s.GoReady r t 0x01)
    (hslot : 4 ≤ s.mailbox.command.toNat / 256 % 256) :
    exec .setWindow s = .next ((s.afterGo r t).finished .badSlot []) := by
  rw [exec_setWindow h, State.setWindow, State.withSlot_refuses hslot, State.refuse_complete]

/-- An index above 15 is refused with BAD_INDEX (R9). -/
theorem exec_setWindow_badIndex {s : State} {r : Requester} {t : Tag} {i : SlotId} (h : s.GoReady r t 0x01)
    (hslot : s.NamesSlot i) (hindex : 16 ≤ s.mailbox.params[0].toNat % 256) :
    exec .setWindow s = .next ((s.afterGo r t).finished .badIndex []) := by
  have hfield : 16 ≤ field ((s.afterGo r t).param 0) 0 8 := by simpa [field] using hindex
  rw [exec_setWindow h, State.setWindow, hslot.withSlot, if_pos hfield, State.refuse_complete]

/-- With a slot and a window of the table named, the window asked for is staged, and answered in the parameter layout. -/
theorem exec_setWindow_staged {s : State} {r : Requester} {t : Tag} {i : SlotId} (h : s.GoReady r t 0x01)
    (hslot : s.NamesSlot i) (hindex : s.mailbox.params[0].toNat % 256 < 16) :
    let index := s.mailbox.params[0].toNat % 256
    let w := (s.afterGo r t).requestedWindow i
    exec .setWindow s = .next
      (({ s.afterGo r t with windowStaging := s.windowStaging.setIfInBounds index w } : State).finished
        (okOrClamped (w.base != s.mailbox.params[2] ++ s.mailbox.params[1] ||
          w.limit != s.mailbox.params[4] ++ s.mailbox.params[3]))
        (windowDwords index w)) := by
  have hfield : field ((s.afterGo r t).param 0) 0 8 = s.mailbox.params[0].toNat % 256 := by simp [field]
  have hinTable : ¬16 ≤ field ((s.afterGo r t).param 0) 0 8 := by omega
  rw [exec_setWindow h, State.setWindow, hslot.withSlot, if_neg hinTable, State.done_complete, hfield]
  rfl

/-- Settles O50: the two refusals, and the staged window with its settled range. -/
theorem windowStaged : Obligations.WindowStaged := by
  intro s r t hgo par index base limit newBase pageEnd raised newLimit
  refine ⟨exec_setWindow_badSlot hgo, fun i hslot => ⟨exec_setWindow_badIndex hgo hslot, fun hindex => ?_⟩⟩
  have hbase : ((s.afterGo r t).requestedWindow i).base = newBase := settleRange_fst base limit
  have hlimit : ((s.afterGo r t).requestedWindow i).limit = newLimit := settleRange_snd base limit
  have hwindow : (s.afterGo r t).requestedWindow i =
      { valid := par[0].getLsbD 8, base := newBase, limit := newLimit, slot := i,
        readRight := par[0].getLsbD 9, writeRight := par[0].getLsbD 10 } := by
    rw [← hbase, ← hlimit]
    rfl
  have hexec := exec_setWindow_staged hgo hslot hindex
  simp only [hwindow, okOrClamped_range] at hexec
  refine ⟨_, _, hexec, fun k => ?_, windowFlags_toNat _ _ _ _ (hindex.trans (by decide))⟩
  rw [Fin.getElem_fin, Vector.getElem_setIfInBounds]
  exact if_congr eq_comm rfl rfl

/-! ### Messages from the host (R5) -/

/-- Each target number's destination. -/
theorem targetDestination_eq (g : Target) :
    targetDestination g =
      if g = 7 then .management
      else if g = 0 then .slot .s0
      else if g = 1 then .slot .s1
      else if g = 2 then .slot .s2
      else if g = 3 then .slot .s3
      else .unrouted := by
  revert g
  decide

/-- A message goes by its target number downstream, and nowhere upstream. -/
theorem State.classify_message (s : State) (d : Direction) (g : Target) :
    s.classify (.message d g) = if d = .upstream then .unrouted else targetDestination g := by
  cases d <;> simp [State.classify, requesterOf]

/-- Settles O17, by the classification of messages and the Management Function's taking of one. -/
theorem messagesByDirectionAndTarget : Obligations.MessagesByDirectionAndTarget := by
  refine ⟨fun s d g hup hfree => ?_, fun s d g hhead => ?_⟩
  · rw [exec_ingressClassify_free _ hup hfree, State.classify_message, targetDestination_eq]
  · exact exec_ingressTake_management hhead

/-! ### Unrouted and refused heads (R13) -/

/-- Posted traffic is discarded and counted. -/
theorem State.takeSynthetic_posted (s : State) {tx : Transaction} (count : State → State) (h : nonPosted tx = false) :
    s.takeSynthetic tx count = count s.clearHead := by
  rw [State.takeSynthetic, unsupportedItem_none h]

/-- A non-posted request is answered UNSUPPORTED and counted once the SAQ has room. -/
theorem State.takeSynthetic_room {s : State} {tx : Transaction} {r : Requester} {t : Tag} (count : State → State)
    (hkey : keyOf tx = some (r, t)) (hroom : s.saq.length < 64) :
    s.takeSynthetic tx count = count (s.clearHead.appendSaq
      { requester := r, tag := t, status := .unsupported, remaining := owedBytes tx, style := .none, owner := none }) := by
  simp [State.takeSynthetic, unsupportedItem_some hkey, State.saqRoom, Config.saqItems, hroom]

/-- A non-posted request is held while the SAQ is full. -/
theorem State.takeSynthetic_full {s : State} {tx : Transaction} (count : State → State) (h : nonPosted tx = true)
    (hfull : 64 ≤ s.saq.length) : s.takeSynthetic tx count = s := by
  obtain ⟨⟨r, t⟩, hkey⟩ := (nonPosted_iff_key tx).1 h
  have hroom : s.saqRoom = false := decide_eq_false (Nat.not_lt.2 hfull)
  simp [State.takeSynthetic, unsupportedItem_some hkey, hroom]

/-- Settles O22: both destinations take the synthetic path, which posted traffic, a request with room in the SAQ and one
without leave each in its own way. -/
theorem unroutedHeadDisposed : Obligations.UnroutedHeadDisposed := by
  intro s tx dest hhead hdest
  rw [exec_ingressTake_synthetic hhead hdest]
  refine ⟨fun hposted => ?_, fun r t hkey hroom => ?_, fun hnonPosted hfull => ?_⟩
  · rw [State.takeSynthetic_posted s _ hposted]
    rfl
  · rw [State.takeSynthetic_room _ hkey hroom]
    rfl
  · rw [State.takeSynthetic_full _ hnonPosted hfull]

end Sys2Proof.Machine

/-! SUPPORT. Deadlines and latency estimation (chapter 3): how a sample moves an estimator, where equal samples settle,
and what SET LIMITS writes. -/

namespace Sys2Proof.Machine

/-! ### One latency sample (R56) -/

/-- The model's natural number loses nothing: a sample never takes the estimate below 0. -/
theorem Estimator.sample_est16 (e : Estimator) (l : Nat) :
    ((e.sample l).est16 : Int) = e.est16 + (16 * (l : Int) - e.est16) / 8 := by
  simp only [Estimator.sample]
  omega

theorem Estimator.sample_samples (e : Estimator) (l : Nat) (h : e.samples ≤ 8) :
    (e.sample l).samples = if e.samples = 8 then 8 else e.samples + 1 := by
  simp only [Estimator.sample, satAdd, Config.learningSamples]
  split <;> omega

/-- From above, a sample keeps the estimate at or above 16 L and comes at least one sixteenth nearer, for the division
rounds toward minus infinity. -/
theorem Estimator.sample_of_ge {e : Estimator} {l : Nat} (h : 16 * l ≤ e.est16) :
    16 * l ≤ (e.sample l).est16 ∧ (e.sample l).est16 - 16 * l ≤ e.est16 - 16 * l - 1 := by
  have hmove := e.sample_est16 l
  omega

/-- From below, a sample keeps the estimate below 16 L and never lowers it, and comes at least one sixteenth nearer while
more than seven are missing. -/
theorem Estimator.sample_of_lt {e : Estimator} {l : Nat} (h : e.est16 < 16 * l) :
    e.est16 ≤ (e.sample l).est16 ∧ (e.sample l).est16 < 16 * l ∧
      16 * l - (e.sample l).est16 - 7 ≤ 16 * l - e.est16 - 7 - 1 := by
  have hmove := e.sample_est16 l
  omega

/-- Less than eight sixteenths below 16 L, a sample moves nothing. -/
theorem Estimator.sample_at_rest {e : Estimator} {l : Nat} (h : e.est16 < 16 * l) (hnear : 16 * l - e.est16 ≤ 7) :
    (e.sample l).est16 = e.est16 := by
  have hmove := e.sample_est16 l
  omega

/-- The new estimate lies between the old one and 16 L. -/
theorem Estimator.sample_between (e : Estimator) (l : Nat) :
    min e.est16 (16 * l) ≤ (e.sample l).est16 ∧ (e.sample l).est16 ≤ max e.est16 (16 * l) := by
  obtain hbelow | habove := Nat.lt_or_ge e.est16 (16 * l)
  · obtain ⟨hup, hshort, -⟩ := Estimator.sample_of_lt hbelow
    omega
  · obtain ⟨hkept, hnearer⟩ := Estimator.sample_of_ge habove
    omega

/-! ### A run of equal samples (R56) -/

/-- A distance that each step shortens by one, until it is 0, is 0 after as many steps as it was long; what every step
keeps still holds then. -/
theorem iterate_closes_distance {α : Type} {f : α → α} {keeps : α → Prop} {dist : α → Nat}
    (step : ∀ x, keeps x → keeps (f x) ∧ dist (f x) ≤ dist x - 1) {x : α} (h : keeps x) {m : Nat} (hm : dist x ≤ m) :
    keeps (f^[m] x) ∧ dist (f^[m] x) = 0 := by
  induction m generalizing x with
  | zero => exact ⟨h, Nat.le_zero.1 hm⟩
  | succ m ih =>
    obtain ⟨hkept, hshorter⟩ := step x h
    exact ih hkept (by omega)

/-- Equal samples from above reach 16 L and stay there. -/
theorem Estimator.samples_settle_of_ge {e : Estimator} {l m : Nat} (h : 16 * l ≤ e.est16) (hm : e.est16 - 16 * l ≤ m) :
    ((fun x => Estimator.sample x l)^[m] e).est16 = 16 * l := by
  obtain ⟨hkept, hclosed⟩ := iterate_closes_distance (f := fun x => Estimator.sample x l)
    (keeps := fun x => 16 * l ≤ x.est16) (dist := fun x => x.est16 - 16 * l)
    (fun _ => Estimator.sample_of_ge) h hm
  omega

/-- Equal samples from below stop one to seven sixteenths short of 16 L. -/
theorem Estimator.samples_settle_of_lt {e : Estimator} {l m : Nat} (h : e.est16 < 16 * l)
    (hm : 16 * l - e.est16 - 7 ≤ m) :
    ((fun x => Estimator.sample x l)^[m] e).est16 < 16 * l ∧
      16 * l - ((fun x => Estimator.sample x l)^[m] e).est16 ≤ 7 := by
  obtain ⟨hkept, hclosed⟩ := iterate_closes_distance (f := fun x => Estimator.sample x l)
    (keeps := fun x => x.est16 < 16 * l) (dist := fun x => 16 * l - x.est16 - 7)
    (fun _ hx => (Estimator.sample_of_lt hx).2) h hm
  exact ⟨hkept, Nat.le_of_sub_eq_zero hclosed⟩

/-- Settles O14: the move of one sample, and where a run of equal samples settles from above and from below. -/
theorem estimatorFollowsSamples : Obligations.EstimatorFollowsSamples := by
  refine ⟨fun e l hest hlat hsamples => ?_, fun e l habove => ?_, fun e l hbelow => ⟨?_, ?_⟩⟩
  · have hcount := e.sample_samples l hsamples
    obtain ⟨hlow, hhigh⟩ := e.sample_between l
    have hmove : ((e.sample l).est16 : Int) = e.est16 + (16 * (l : Int) - e.est16).fdiv 8 := by
      rw [Int.fdiv_eq_ediv_of_nonneg _ (by decide), e.sample_est16 l]
    have hest' : (e.sample l).est16 ≤ 1048560 := by omega
    exact ⟨hmove, hcount, hlow, hhigh, hest', satAdd_le ..⟩
  · exact ⟨_, fun _ => Estimator.samples_settle_of_ge habove⟩
  · exact Estimator.sample_at_rest hbelow
  · exact ⟨_, fun _ => Estimator.samples_settle_of_lt hbelow⟩

/-! ### SET LIMITS (R53) -/

theorem classOf?_eq_none {n : Nat} (h : 2 ≤ n) : classOf? n = none := by
  obtain ⟨k, rfl⟩ := Nat.exists_eq_add_of_le' h
  rfl

/-- FLOOR, CEIL and MULT as R53 settles them, in order, and PER16 by the class. -/
theorem settleLimits_eq (c : RequestClass) (floor ceil mult per16 : Nat) :
    settleLimits c floor ceil mult per16 =
      let low := if floor = 0 then 1 else min 65535 floor
      { floor := low, ceil := max low (min 65535 ceil), mult := max 4 (min 255 mult),
        per16 := if c = .mem then min 255 per16 else 0 } := by
  have hfloor : clampTo 1 65535 floor = if floor = 0 then 1 else min 65535 floor := by
    rw [clampTo_eq 1 65535 floor (by decide)]
    split <;> omega
  have hceil : clampTo (clampTo 1 65535 floor) 65535 ceil = max (clampTo 1 65535 floor) (min 65535 ceil) :=
    clampTo_eq _ _ _ (clampTo_mem 1 65535 floor (by decide)).2
  rw [hfloor] at hceil
  have hmult : clampTo 4 255 mult = max 4 (min 255 mult) := clampTo_eq 4 255 mult (by decide)
  have hper : clampTo 0 255 per16 = min 255 per16 := by
    rw [clampTo_eq 0 255 per16 (by decide), Nat.zero_max]
  cases c <;> simp [settleLimits, hceil, hfloor, hmult, hper]

/-- Nothing was changed where every value the class uses is kept; CFG disregards PER16 (R53). -/
theorem limitsChanged_eq_false_iff (c : RequestClass) (floor ceil mult per16 : Nat) :
    limitsChanged c floor ceil mult per16 = false ↔
      let l := settleLimits c floor ceil mult per16
      l.floor = floor ∧ l.ceil = ceil ∧ l.mult = mult ∧ (c = .mem → l.per16 = per16) := by
  cases c <;> simp [limitsChanged, and_assoc]

theorem okOrClamped_eq_ite (changed : Bool) : okOrClamped changed = if changed = false then .ok else .clamped := by
  cases changed <;> rfl

/-- The event of SET LIMITS is its effect on the state the GO leaves. -/
theorem exec_setLimits {s : State} {r : Requester} {t : Tag} (h : s.GoReady r t 0x09) :
    exec .setLimits s = .next (s.afterGo r t).setLimits.complete := by
  rw [← h.runGo fun u => u.setLimits.complete]
  rfl

/-- A slot field above 3 is refused with BAD_SLOT (R171). -/
theorem exec_setLimits_badSlot {s : State} {r : Requester} {t : Tag} (h : s.GoReady r t 0x09)
    (hslot : 4 ≤ s.mailbox.command.toNat / 256 % 256) :
    exec .setLimits s = .next ((s.afterGo r t).finished .badSlot []) := by
  rw [exec_setLimits h, State.setLimits, State.withSlot_refuses hslot, State.refuse_complete]

/-- A class that is neither MEM nor CFG is refused with BAD_INDEX (R53). -/
theorem exec_setLimits_badIndex {s : State} {r : Requester} {t : Tag} {i : SlotId} (h : s.GoReady r t 0x09)
    (hslot : s.NamesSlot i) (hclass : 2 ≤ s.mailbox.params[0].toNat) :
    exec .setLimits s = .next ((s.afterGo r t).finished .badIndex []) := by
  have hnone : classOf? ((s.afterGo r t).param 0).toNat = none := classOf?_eq_none hclass
  rw [exec_setLimits h, State.setLimits, hslot.withSlot, hnone, State.refuse_complete]

/-- With a slot and a class named, the settled record is written and the class's estimator reset, whatever the slot's
state and its record were (R53). -/
theorem exec_setLimits_written {s : State} {r : Requester} {t : Tag} {i : SlotId} {c : RequestClass}
    (h : s.GoReady r t 0x09) (hslot : s.NamesSlot i) (hclass : classOf? s.mailbox.params[0].toNat = some c) :
    let par : Fin 8 → Nat := fun k => s.mailbox.params[k].toNat
    let l := settleLimits c (par 1) (par 2) (par 3) (par 4)
    exec .setLimits s = .next
      (((s.afterGo r t).withSlotAt i
        { s.slot i with deadlines := (s.slot i).deadlines.setLimits c l }).finished
      (okOrClamped (limitsChanged c (par 1) (par 2) (par 3) (par 4)))
      [dwordOf l.floor, dwordOf l.ceil, dwordOf l.mult, dwordOf l.per16]) := by
  have hsome : classOf? ((s.afterGo r t).param 0).toNat = some c := hclass
  rw [exec_setLimits h, State.setLimits, hslot.withSlot, hsome, State.done_complete]
  rfl

/-- Settles O53: the two refusals, and the record of each class as settled. -/
theorem limitsSet : Obligations.LimitsSet := by
  intro s r t hgo par floor ceil mult per
  refine ⟨exec_setLimits_badSlot hgo, fun i hslot =>
    ⟨exec_setLimits_badIndex hgo hslot, fun hmem => ?_, fun hcfg => ?_⟩⟩
  · have hexec := exec_setLimits_written (c := .mem) hgo hslot (congrArg classOf? hmem)
    simp only [okOrClamped_eq_ite, limitsChanged_eq_false_iff, settleLimits_eq, forall_const, if_true] at hexec
    exact hexec
  · have hexec := exec_setLimits_written (c := .cfg) hgo hslot (congrArg classOf? hcfg)
    simp only [okOrClamped_eq_ite, limitsChanged_eq_false_iff, settleLimits_eq, reduceCtorEq, false_imp_iff, and_true,
      if_false] at hexec
    exact hexec

end Sys2Proof.Machine

/-! SUPPORT. Containment and synthetic answers (chapter 5): what the containment path does with an ingress head for a
non-serving slot, and the item it answers with. -/

namespace Sys2Proof.Machine

/-! ### The slot of the head -/

/-- A slot in neither ONLINE nor PROBATION has its gates closed (R81). -/
theorem Slot.serving_eq_false {p : Slot} (honline : p.seq.state ≠ .online) (hprobation : p.seq.state ≠ .probation) :
    p.serving = false := by
  cases hstate : p.seq.state with
  | online => exact absurd hstate honline
  | probation => exact absurd hstate hprobation
  | empty | offline | draining | fenced | recovering | retired => simp [Slot.serving, SlotState.serving, hstate]

/-- INGRESS_TAKE of a head for a non-serving slot: the containment path (R88). -/
theorem exec_ingressTake_contained {s : State} {i : SlotId} {tx : Transaction}
    (hhead : s.head = some { tx := tx, dest := .slot i }) (hserving : (s.slot i).serving = false) :
    exec .ingressTake s = .next (s.takeContained i tx) := by
  simp [exec, execIngressTake, hhead, hserving]

/-! ### The item and its count -/

/-- The item of a request with a key: ABORT for an EMPTY slot or one of that style, else OK with ones where data is read
(R90). -/
theorem Slot.containmentItem_eq_ite {tx : Transaction} {r : Requester} {t : Tag} (p : Slot)
    (hkey : keyOf tx = some (r, t)) :
    p.containmentItem tx = some (
      if p.seq.state = .empty ∨ p.seq.plan.style = .abort then
        { requester := r, tag := t, status := .abort, remaining := owedBytes tx, style := .none, owner := none }
      else
        { requester := r, tag := t, status := .ok, remaining := owedBytes tx,
          style := if readsData tx then .ones else .none, owner := none }) := by
  rw [containmentItem_some p hkey]
  by_cases hempty : p.seq.state = .empty
  · simp [Slot.answerStyle, AnswerStyle.contents, hempty]
  · cases hstyle : p.seq.plan.style <;> simp [Slot.answerStyle, AnswerStyle.contents, hempty, hstyle]

/-- A synthetic answer is counted for the slot and, while its incident is PENDING, in that record (R95). -/
theorem Slot.countSynthetic_eq (p : Slot) :
    p.countSynthetic = { p with
      counters := { p.counters with synthetic := min 4294967295 (p.counters.synthetic + 1) }
      current := if p.current.outcome = .pending then
          { p.current with synthetic := min 65535 (p.current.synthetic + 1) }
        else p.current } := by
  by_cases hpending : p.current.outcome = .pending <;>
    simp [Slot.countSynthetic, Slot.notePending, satAdd, Config.counterLimit, Config.incidentLimit, hpending]

/-! ### The containment path of an ingress head (R88) -/

/-- Posted traffic is dropped and counted, whatever waits in the SAQ or the Send Queue. -/
theorem State.takeContained_posted (s : State) (i : SlotId) {tx : Transaction} (hposted : nonPosted tx = false) :
    s.takeContained i tx = s.clearHead.withSlotAt i ((s.slot i).countDroppedWrites 1) := by
  rw [State.takeContained, containmentItem_none _ hposted]
  rfl

/-- A non-posted request is taken as its item joins the SAQ, where that has room and no non-posted entry waits ahead. -/
theorem State.takeContained_answered {s : State} {i : SlotId} {tx : Transaction} {item : SaqItem}
    (hitem : (s.slot i).containmentItem tx = some item) (hroom : s.saq.length < 64)
    (hahead : ∀ x ∈ (s.slot i).traffic.sendQueue, nonPosted x = false) :
    s.takeContained i tx = (s.clearHead.appendSaq item).withSlotAt i (s.slot i).countSynthetic := by
  have hsaq : s.saqRoom = true := decide_eq_true hroom
  have hqueue : (s.slot i).traffic.sendQueue.any nonPosted = false := by simpa using hahead
  simp only [State.takeContained, hitem, hsaq, hqueue, Bool.not_false, Bool.and_self, if_true]
  rfl

/-- A non-posted request is held while the SAQ is full or a non-posted entry waits ahead of it. -/
theorem State.takeContained_held {s : State} {i : SlotId} {tx : Transaction} (hnonPosted : nonPosted tx = true)
    (hwait : 64 ≤ s.saq.length ∨ ∃ x ∈ (s.slot i).traffic.sendQueue, nonPosted x = true) :
    s.takeContained i tx = s := by
  obtain ⟨⟨r, t⟩, hkey⟩ := (nonPosted_iff_key tx).1 hnonPosted
  have hclosed : (s.saqRoom && !(s.slot i).traffic.sendQueue.any nonPosted) = false := by
    obtain hfull | hahead := hwait
    · have hsaq : s.saqRoom = false := decide_eq_false (Nat.not_lt.2 hfull)
      rw [hsaq, Bool.false_and]
    · rw [List.any_eq_true.2 hahead, Bool.not_true, Bool.and_false]
  simp [State.takeContained, containmentItem_some _ hkey, hclosed]

/-- Settles O21: a non-serving slot's head takes the containment path, which posted traffic, a request that can be
answered and one that cannot yet be each leave in their own way. -/
theorem containedHeadDisposed : Obligations.ContainedHeadDisposed := by
  intro s i tx hhead honline hprobation
  rw [exec_ingressTake_contained hhead (Slot.serving_eq_false honline hprobation)]
  refine ⟨fun hposted => ?_, fun r t hkey hroom hahead => ?_, fun hnonPosted hwait => ?_⟩
  · rw [State.takeContained_posted s i hposted]
    rfl
  · rw [State.takeContained_answered ((s.slot i).containmentItem_eq_ite hkey) hroom hahead, Slot.countSynthetic_eq]
    rfl
  · rw [State.takeContained_held hnonPosted hwait]

end Sys2Proof.Machine

/-! SUPPORT. What every operation on a slot keeps, whatever the slot's state: capacities, distinct entries and ranges,
what is owed to the host, and the ANSWERING entries. -/

namespace Sys2Proof.Machine

/-! ### Data in range -/

/-- The capacities, the distinctness and the ranges of one slot: the part of `State.Sound` that holds in the middle of
every event too. -/
structure Slot.DataOk (p : Slot) : Prop where
  bounded : p.Bounded
  distinct : p.OrtDistinct
  range : p.InRange
  attempts : ∀ l, p.seq.attempts.get l ≤ 7

/-- The ANSWERING entries of a slot with a number. -/
def Slot.answeringAt (p : Slot) (n : Nat) : Nat :=
  p.traffic.ort.countP fun e => e.number == n && e.state == .answering

/-- The Send Queue has no posted head, whatever the slot's state. -/
def Slot.HeadAwaits (p : Slot) : Prop := ∀ tx, p.traffic.sendQueue.head? = some tx → nonPosted tx = true

/-- From `p` to `q` nothing of a slot goes out of range, nothing owed to the host is lost or gained, and no entry enters
or leaves ANSWERING. -/
structure Slot.Calm (p q : Slot) : Prop where
  data : p.DataOk → q.DataOk
  debt : q.debt = p.debt
  answering : ∀ n, q.answeringAt n = p.answeringAt n
  owes : p.HeadAwaits → q.HeadAwaits ∧ (p.nothingOwed = false → q.nothingOwed = false)

namespace Slot.Calm

variable {p q r : Slot}

theorem refl (p : Slot) : p.Calm p := ⟨id, rfl, fun _ => rfl, fun h => ⟨h, id⟩⟩

theorem trans (h : p.Calm q) (k : q.Calm r) : p.Calm r where
  data := k.data ∘ h.data
  debt := k.debt.trans h.debt
  answering n := (k.answering n).trans (h.answering n)
  owes hp := ⟨(k.owes (h.owes hp).1).1, (k.owes (h.owes hp).1).2 ∘ (h.owes hp).2⟩

/-- An operation that leaves the traffic alone has only its data to answer for. -/
theorem of_traffic (ht : q.traffic = p.traffic) (hd : p.DataOk → q.DataOk) : p.Calm q where
  data := hd
  debt := by simp only [Slot.debt, ht]
  answering n := by simp only [Slot.answeringAt, ht]
  owes h := ⟨by simpa only [Slot.HeadAwaits, ht] using h, by simp only [Slot.nothingOwed, ht, imp_self]⟩

end Slot.Calm

/-- Data in range depends on nothing of the lines but power control, and on nothing of the sequencer but its plans and
attempt counts. -/
theorem Slot.DataOk.congr {p q : Slot} (h : p.DataOk) (ht : q.traffic = p.traffic := by simp)
    (hs : q.script = p.script := by simp) (hd : q.deadlines = p.deadlines := by simp)
    (hm : q.detect = p.detect := by simp) (hk : q.counters = p.counters := by simp)
    (hc : q.current = p.current := by simp) (hv : q.previous = p.previous := by simp)
    (hl : q.lines.powerControl = p.lines.powerControl := by simp) (hp : q.seq.plan = p.seq.plan := by simp)
    (hx : q.seq.sample = p.seq.sample := by simp) (ha : q.seq.attempts = p.seq.attempts := by simp) : q.DataOk := by
  obtain ⟨hb, hdis, hr, hat⟩ := h
  constructor
  · simpa only [Slot.Bounded, ht, hs] using hb
  · simpa only [Slot.OrtDistinct, ht] using hdis
  · simpa only [Slot.InRange, Slot.PlanUsable, hd, hm, hk, hc, hv, hl, hp, hx] using hr
  · simpa only [ha] using hat

/-- An operation on lines, phases and executor alone. -/
theorem Slot.Calm.of_control {p q : Slot} (ht : q.traffic = p.traffic := by simp)
    (hs : q.script = p.script := by simp) (hd : q.deadlines = p.deadlines := by simp)
    (hm : q.detect = p.detect := by simp) (hk : q.counters = p.counters := by simp)
    (hc : q.current = p.current := by simp) (hv : q.previous = p.previous := by simp)
    (hl : q.lines.powerControl = p.lines.powerControl := by simp) (hp : q.seq.plan = p.seq.plan := by simp)
    (hx : q.seq.sample = p.seq.sample := by simp) (ha : q.seq.attempts = p.seq.attempts := by simp) : p.Calm q :=
  .of_traffic ht fun h => h.congr ht hs hd hm hk hc hv hl hp hx ha

/-- An operation on lines, phases and executor alone, by computation. -/
theorem Slot.Calm.of_eq {p q : Slot} (ht : q.traffic = p.traffic := by rfl)
    (hs : q.script = p.script := by rfl) (hd : q.deadlines = p.deadlines := by rfl)
    (hm : q.detect = p.detect := by rfl) (hk : q.counters = p.counters := by rfl)
    (hc : q.current = p.current := by rfl) (hv : q.previous = p.previous := by rfl)
    (hl : q.lines.powerControl = p.lines.powerControl := by rfl) (hp : q.seq.plan = p.seq.plan := by rfl)
    (hx : q.seq.sample = p.seq.sample := by rfl) (ha : q.seq.attempts = p.seq.attempts := by rfl) : p.Calm q :=
  .of_control ht hs hd hm hk hc hv hl hp hx ha

/-! ### Lines, phases and executor -/

variable (p : Slot)

theorem Slot.assertReset_calm : p.Calm p.assertReset := .of_control
theorem Slot.releaseReset_calm : p.Calm p.releaseReset := .of_control
theorem Slot.setPower_calm (on : Bool) : p.Calm (p.setPower on) := .of_control
theorem Slot.setState_calm (st : SlotState) : p.Calm (p.setState st) := .of_control
theorem Slot.clearHeld_calm : p.Calm p.clearHeld := .of_control
theorem Slot.enterPhase_calm (ph : Phase) (t : UnitTimer) : p.Calm (p.enterPhase ph t) := .of_control
theorem Slot.stopExecutor_calm : p.Calm p.stopExecutor := .of_control
theorem Slot.issue_calm : p.Calm p.issue := .of_control
theorem Slot.startStep_calm (k : Nat) (st : Step) : p.Calm (p.startStep k st) := .of_control
theorem Slot.startOnSettle_calm : p.Calm p.startOnSettle := .of_eq
theorem Slot.setLink_calm (up : Bool) : p.Calm (p.setLink up) := .of_eq
theorem Slot.setPwrgd_calm (on : Bool) : p.Calm (p.setPwrgd on) := .of_eq
theorem Slot.setPresent_calm (on : Bool) : p.Calm (p.setPresent on) :=
  .of_eq

theorem Slot.enterFunctionReset_calm : p.Calm p.enterFunctionReset :=
  p.stopExecutor_calm.trans ((Slot.enterPhase_calm _ _ _).trans (Slot.issue_calm _))

theorem Slot.enterPowerOn_calm : p.Calm p.enterPowerOn := by
  unfold Slot.enterPowerOn
  have h := (p.setPower_calm true).trans (Slot.enterPhase_calm _ .powerOn (some (units p.seq.sample.pwrgdLimit)))
  dsimp only
  split
  · exact h.trans (Slot.startOnSettle_calm _)
  · exact h

/-! ### Records and counters -/

/-- A slot's current record may be replaced by another in range. -/
theorem Slot.DataOk.with_current {p : Slot} (h : p.DataOk) {c : Incident} (hc : c.InRange) :
    ({ p with current := c } : Slot).DataOk := by
  obtain ⟨hb, hdis, ⟨h1, h2, h3, h4, h5, h6, h7, h8, h9, h10, h11, h12, h13, h14, -, h16⟩, hat⟩ := h
  exact ⟨hb, hdis, ⟨h1, h2, h3, h4, h5, h6, h7, h8, h9, h10, h11, h12, h13, h14, hc, h16⟩, hat⟩

theorem Slot.DataOk.with_counters {p : Slot} (h : p.DataOk) {c : SlotCounters} (hc : c.InRange) :
    ({ p with counters := c } : Slot).DataOk := by
  obtain ⟨hb, hdis, ⟨h1, h2, h3, h4, h5, h6, h7, h8, h9, h10, h11, h12, h13, -, h15, h16⟩, hat⟩ := h
  exact ⟨hb, hdis, ⟨h1, h2, h3, h4, h5, h6, h7, h8, h9, h10, h11, h12, h13, hc, h15, h16⟩, hat⟩

/-- The ranges of the Stall Monitor's count and of the Health Monitor's counts and settings (R63, R68, R70, R73). -/
def Detection.InRange (d : Detection) : Prop :=
  d.monitor.InRange ∧ d.stallCount ≤ 65535 ∧ d.pendingErrors ≤ 255 ∧ d.pendingStrays ≤ 255 ∧ d.errAcc ≤ 255 ∧
    d.strayAcc ≤ 255

theorem Slot.DataOk.detect {p : Slot} (h : p.DataOk) : p.detect.InRange := by
  obtain ⟨-, -, ⟨-, -, -, -, -, h6, h7, h8, h9, h10, h11, -⟩, -⟩ := h
  exact ⟨h6, h7, h8, h9, h10, h11⟩

theorem Slot.DataOk.with_detect {p : Slot} (h : p.DataOk) {d : Detection} (hd : d.InRange) :
    ({ p with detect := d } : Slot).DataOk := by
  obtain ⟨hb, hdis, ⟨h1, h2, h3, h4, h5, -, -, -, -, -, -, h12, h13, h14, h15, h16⟩, hat⟩ := h
  obtain ⟨d6, d7, d8, d9, d10, d11⟩ := hd
  exact ⟨hb, hdis, ⟨h1, h2, h3, h4, h5, d6, d7, d8, d9, d10, d11, h12, h13, h14, h15, h16⟩, hat⟩

theorem Slot.DataOk.current {p : Slot} (h : p.DataOk) : p.current.InRange := by
  obtain ⟨-, -, ⟨-, -, -, -, -, -, -, -, -, -, -, -, -, -, h15, -⟩, -⟩ := h
  exact h15

theorem Slot.DataOk.counters {p : Slot} (h : p.DataOk) : p.counters.InRange := by
  obtain ⟨-, -, ⟨-, -, -, -, -, -, -, -, -, -, -, -, -, h14, -⟩, -⟩ := h
  exact h14

/-- A PENDING record changed within its ranges. -/
theorem Slot.DataOk.notePending {p : Slot} (h : p.DataOk) {f : Incident → Incident}
    (hf : p.current.InRange → (f p.current).InRange) : (p.notePending f).DataOk := by
  unfold Slot.notePending
  split
  · exact h.with_current (hf h.current)
  · exact h

theorem Slot.notePending_calm {f : Incident → Incident} (hf : p.current.InRange → (f p.current).InRange) :
    p.Calm (p.notePending f) :=
  .of_traffic (by simp) fun h => h.notePending hf

theorem Slot.addFurther_calm (c : TripCause) : p.Calm (p.addFurther c) := p.notePending_calm id

theorem Slot.raiseHighest_calm (l : Level) : p.Calm (p.raiseHighest l) := p.notePending_calm id

theorem Slot.countTrip_calm : p.Calm p.countTrip :=
  .of_traffic rfl fun h => h.with_counters (by
    obtain ⟨h1, h2, h3, h4, h5, h6, h7, -⟩ := h.counters
    exact ⟨h1, h2, h3, h4, h5, h6, h7, satAdd_le ..⟩)

theorem Slot.countDroppedWrites_calm (k : Nat) : p.Calm (p.countDroppedWrites k) :=
  .of_traffic rfl fun h => h.with_counters (by
    obtain ⟨h1, h2, h3, h4, h5, -, h7, h8⟩ := h.counters
    exact ⟨h1, h2, h3, h4, h5, satAdd_le .., h7, h8⟩)

theorem Slot.countDroppedCardRequests_calm (k : Nat) : p.Calm (p.countDroppedCardRequests k) := by
  refine .of_traffic (by simp) fun h => .notePending (h.with_counters ?_) fun hc => ?_
  · obtain ⟨h1, h2, h3, h4, -, h6, h7, h8⟩ := h.counters
    exact ⟨h1, h2, h3, h4, satAdd_le .., h6, h7, h8⟩
  · obtain ⟨hv, h1, h2, h3, h4, -, h6⟩ := hc
    exact ⟨hv, h1, h2, h3, h4, satAdd_le .., h6⟩

theorem Slot.countSynthetic_calm : p.Calm p.countSynthetic := by
  refine .of_traffic (by simp) fun h => .notePending (h.with_counters ?_) fun hc => ?_
  · obtain ⟨h1, -, h3, h4, h5, h6, h7, h8⟩ := h.counters
    exact ⟨h1, satAdd_le .., h3, h4, h5, h6, h7, h8⟩
  · obtain ⟨hv, h1, h2, h3, -, h5, h6⟩ := hc
    exact ⟨hv, h1, h2, h3, satAdd_le .., h5, h6⟩

theorem Slot.countStale_calm : p.Calm p.countStale := by
  refine .of_traffic (by simp) fun h => .notePending (h.with_counters ?_) fun hc => ?_
  · obtain ⟨h1, h2, -, h4, h5, h6, h7, h8⟩ := h.counters
    exact ⟨h1, h2, satAdd_le .., h4, h5, h6, h7, h8⟩
  · obtain ⟨hv, h1, h2, h3, h4, h5, -⟩ := hc
    exact ⟨hv, h1, h2, h3, h4, h5, satAdd_le ..⟩

theorem Slot.countDuplicate_calm : p.Calm p.countDuplicate :=
  .of_traffic rfl fun h => h.with_counters (by
    obtain ⟨h1, h2, h3, h4, h5, h6, -, h8⟩ := h.counters
    exact ⟨h1, h2, h3, h4, h5, h6, satAdd_le .., h8⟩)

theorem Slot.countStray_calm : p.Calm p.countStray := by
  refine .of_traffic rfl fun h => ?_
  have hk : ({ p.counters with stray := satAdd Config.counterLimit p.counters.stray 1 } : SlotCounters).InRange := by
    obtain ⟨h1, h2, h3, -, h5, h6, h7, h8⟩ := h.counters
    exact ⟨h1, h2, h3, satAdd_le .., h5, h6, h7, h8⟩
  refine (h.with_counters hk).with_detect ?_
  obtain ⟨hm, h1, h2, h3, h4, h5⟩ := h.detect
  split
  · exact ⟨hm, h1, h2, satAdd_le .., h4, h5⟩
  · exact ⟨hm, h1, h2, h3, h4, h5⟩

theorem Slot.reloadStall_calm : p.Calm p.reloadStall :=
  .of_traffic rfl fun h => h.with_detect (by
    obtain ⟨hm, -, h2, h3, h4, h5⟩ := h.detect
    exact ⟨hm, hm.2.1, h2, h3, h4, h5⟩)

theorem Slot.clearHealth_calm : p.Calm p.clearHealth :=
  .of_traffic rfl fun h => h.with_detect (by
    obtain ⟨hm, h1, -⟩ := h.detect
    exact ⟨hm, h1, Nat.zero_le _, Nat.zero_le _, Nat.zero_le _, Nat.zero_le _⟩)

/-! ### Attempt counts and plan samples -/

/-- Attempt counts in range, in the sequencer and in a PENDING record. -/
theorem Slot.setAttempts_calm {a : PerLevel} (ha : p.DataOk → ∀ l, a.get l ≤ 7) : p.Calm (p.setAttempts a) := by
  refine .of_traffic (by simp) fun h => .notePending (p := { p with seq := { p.seq with attempts := a } })
    ⟨h.bounded, h.distinct, h.range, ha h⟩ fun hc => ?_
  obtain ⟨hv, -, -, -, h4, h5, h6⟩ := hc
  exact ⟨hv, ha h .function, ha h .slot, ha h .power, h4, h5, h6⟩

theorem PerLevel.get_set (v : PerLevel) (l m : Level) (n : Nat) : (v.set l n).get m = if m = l then n else v.get m := by
  cases l <;> cases m <;> rfl

theorem PerLevel.get_lowerTo (v w : PerLevel) (l : Level) : (v.lowerTo w).get l = min (v.get l) (w.get l) := by
  cases l <;> rfl

theorem Slot.countAttempt_calm : p.Calm p.countAttempt := by
  unfold Slot.countAttempt
  split
  · refine p.setAttempts_calm fun h l => ?_
    rw [PerLevel.get_set]
    split
    · exact satAdd_le ..
    · exact h.attempts l
  · exact .refl p

theorem Slot.DataOk.sample {p : Slot} (h : p.DataOk) : p.PlanUsable p.seq.sample := by
  obtain ⟨-, -, ⟨-, -, -, -, -, -, -, -, -, -, -, -, h13, -⟩, -⟩ := h
  exact h13

theorem Slot.DataOk.plan {p : Slot} (h : p.DataOk) : p.PlanUsable p.seq.plan := by
  obtain ⟨-, -, ⟨-, -, -, -, -, -, -, -, -, -, -, h12, -⟩, -⟩ := h
  exact h12

theorem Slot.DataOk.with_sample {p : Slot} (h : p.DataOk) {q : Plan} (hq : p.PlanUsable q) :
    ({ p with seq := { p.seq with sample := q } } : Slot).DataOk := by
  obtain ⟨hb, hdis, ⟨h1, h2, h3, h4, h5, h6, h7, h8, h9, h10, h11, h12, -, h14⟩, hat⟩ := h
  exact ⟨hb, hdis, ⟨h1, h2, h3, h4, h5, h6, h7, h8, h9, h10, h11, h12, hq, h14⟩, hat⟩

theorem Slot.takeSample_calm : p.Calm p.takeSample := by
  have hs : p.Calm { p with seq := { p.seq with sample := p.seq.plan } } := .of_traffic rfl fun h => h.with_sample h.plan
  refine hs.trans (Slot.setAttempts_calm _ fun h l => ?_)
  rw [PerLevel.get_lowerTo]
  exact (Nat.min_le_left ..).trans (h.attempts l)

theorem Slot.spendFunction_calm : p.Calm p.spendFunction := by
  refine (p.raiseHighest_calm .function).trans (Slot.setAttempts_calm _ fun h l => ?_)
  rw [PerLevel.get_set]
  split
  · have hs := h.sample.1.1 .function
    simp only [Slot.raiseHighest_seq] at hs
    exact hs.2
  · simpa using h.attempts l

theorem Slot.beginLevel_calm (l : Level) : p.Calm (p.beginLevel l) := by
  have hs : p.Calm { p with seq := { p.seq with state := .recovering, level := some l } } :=
    .of_eq
  exact hs.trans (Slot.raiseHighest_calm _ l)

/-! ### Scripts and sequences -/

theorem ScriptStore.commit_bounded {sc : ScriptStore} (h : sc.stagingLength ≤ 64) :
    sc.commit.stagingLength ≤ 64 ∧ sc.commit.active.length ≤ 64 := by
  refine ⟨h, ?_⟩
  simp only [ScriptStore.commit, ScriptStore.stagingSteps, List.length_take]
  omega

theorem Slot.DataOk.with_script {p : Slot} (h : p.DataOk) {sc : ScriptStore}
    (hs : sc.stagingLength ≤ 64 ∧ sc.active.length ≤ 64) : ({ p with script := sc } : Slot).DataOk := by
  obtain ⟨⟨h1, h2, h3, -⟩, hdis, hr, hat⟩ := h
  exact ⟨⟨h1, h2, h3, hs⟩, hdis, hr, hat⟩

theorem Slot.leaveRestoring_calm : p.Calm p.leaveRestoring := by
  unfold Slot.leaveRestoring
  split
  · exact .of_traffic rfl fun h => h.with_script (ScriptStore.commit_bounded h.bounded.2.2.2.1)
  · exact .refl p

theorem Slot.stopSequence_calm : p.Calm p.stopSequence :=
  p.leaveRestoring_calm.trans ((Slot.stopExecutor_calm _).trans
    (.of_eq))

theorem Slot.DataOk.with_estimators {p : Slot} (h : p.DataOk) {m c : Estimator} (hm : m.InRange) (hc : c.InRange) :
    ({ p with deadlines := { p.deadlines with memEst := m, cfgEst := c } } : Slot).DataOk := by
  obtain ⟨hb, hdis, ⟨h1, h2, h3, -, -, hrest⟩, hat⟩ := h
  exact ⟨hb, hdis, ⟨h1, h2, h3, hm, hc, hrest⟩, hat⟩

theorem Estimator.zero_inRange : Estimator.zero.InRange := ⟨by decide, by decide⟩

theorem Slot.enterProbation_calm : p.Calm p.enterProbation := by
  refine p.stopSequence_calm.trans (.of_traffic rfl fun h => ?_)
  have hq := (h.with_estimators Estimator.zero_inRange Estimator.zero_inRange).with_detect
    (d := { p.stopSequence.detect with
      pendingErrors := 0, pendingStrays := 0, errAcc := 0, strayAcc := 0, stallDue := false,
      stallCount := p.stopSequence.detect.monitor.stallLimit })
    ⟨h.detect.1, h.detect.1.2.1, Nat.zero_le _, Nat.zero_le _, Nat.zero_le _, Nat.zero_le _⟩
  exact hq.congr rfl rfl rfl rfl rfl rfl rfl rfl rfl rfl rfl

/-! ### The ORT and the gates -/

/-- An operation on the ORT and the Send Queue: entries change only their state and keep-key, or leave, and what is owed
is kept. -/
theorem Slot.DataOk.with_traffic {p : Slot} (h : p.DataOk) {tr : Traffic} (h1 : tr.sendQueue.length ≤ 16)
    (h2 : tr.recvQueue.length ≤ 16)
    (h3 : (tr.ort.map fun e => (e.requester, e.tag)).Sublist (p.traffic.ort.map fun e => (e.requester, e.tag)))
    (h4 : (tr.ort.map Entry.number).Sublist (p.traffic.ort.map Entry.number)) :
    ({ p with traffic := tr } : Slot).DataOk := by
  obtain ⟨⟨-, -, hort, hscript⟩, ⟨hk, hn, hlt⟩, hr, hat⟩ := h
  refine ⟨⟨h1, h2, ?_, hscript⟩, ⟨hk.sublist h3, hn.sublist h4, fun e he => ?_⟩, hr, hat⟩
  · have hlen := h4.length_le
    simp only [List.length_map] at hlen
    exact hlen.trans hort
  · obtain ⟨x, hx, hxe⟩ := List.mem_map.1 (h4.subset (List.mem_map_of_mem he))
    exact hxe ▸ hlt x hx

theorem Slot.DataOk.with_ort {p : Slot} (h : p.DataOk) {ort : List Entry}
    (h3 : (ort.map fun e => (e.requester, e.tag)).Sublist (p.traffic.ort.map fun e => (e.requester, e.tag)))
    (h4 : (ort.map Entry.number).Sublist (p.traffic.ort.map Entry.number)) :
    ({ p with traffic := { p.traffic with ort := ort } } : Slot).DataOk :=
  h.with_traffic h.bounded.1 h.bounded.2.1 h3 h4

@[simp] theorem Entry.fence_owed (e : Entry) : e.fence.owed = e.owed := by
  unfold Entry.fence
  cases hs : e.state <;> simp [Entry.isLive, Entry.owed, Entry.isFenced, hs]

theorem Entry.fence_answering (e : Entry) : (e.fence.state == .answering) = (e.state == .answering) := by
  unfold Entry.fence
  cases hs : e.state <;> simp [Entry.isLive, hs]

theorem Entry.isFenced_fence {e : Entry} (h : e.isFenced = true) : e.fence.isFenced = true := by
  have hf : e.state = .fenced := by simpa [Entry.isFenced] using h
  simp [Entry.fence, Entry.isLive, Entry.isFenced, hf]

theorem Slot.fenceAll_calm : p.Calm p.fenceAll where
  data h := h.with_ort (by simp [Function.comp_def]) (by simp [Function.comp_def])
  debt := by simp [Slot.debt, Slot.fenceAll, List.countP_map, Function.comp_def]
  answering n := by
    simp only [Slot.answeringAt, Slot.fenceAll, List.countP_map, Function.comp_def, Entry.fence_number,
      Entry.fence_answering]
  owes h := by
    refine ⟨h, fun ho => ?_⟩
    simp only [Slot.nothingOwed, Slot.fenceAll, List.any_map, Bool.and_eq_false_iff, Bool.not_eq_false',
      List.any_eq_true, Function.comp] at ho ⊢
    exact ho.imp_left fun ⟨e, he, hf⟩ => ⟨e, he, Entry.isFenced_fence hf⟩

@[simp] theorem Entry.forgetKey_owed (e : Entry) : e.forgetKey.owed = e.owed := by
  simp [Entry.owed, Entry.isLive, Entry.isFenced]

theorem Slot.tombstoneClear_calm : p.Calm p.tombstoneClear where
  data h := h.with_ort (by simpa [Function.comp_def] using List.filter_sublist.map _)
    (by simpa [Function.comp_def] using List.filter_sublist.map _)
  debt := by
    simp only [Slot.debt, Slot.tombstoneClear, List.countP_map, Function.comp_def, Entry.forgetKey_owed, List.countP_filter]
    congr 1
    refine List.countP_congr fun e _ => ?_
    cases hs : e.state <;> simp [Entry.owed, Entry.isLive, Entry.isFenced, Entry.isTombstone, hs]
  answering n := by
    simp only [Slot.answeringAt, Slot.tombstoneClear, List.countP_map, Function.comp_def, Entry.forgetKey_number,
      Entry.forgetKey_state, List.countP_filter]
    refine List.countP_congr fun e _ => ?_
    cases hs : e.state <;> simp [Entry.isTombstone, hs]
  owes h := by
    refine ⟨h, fun ho => ?_⟩
    simp only [Slot.nothingOwed, Slot.tombstoneClear, List.any_map, Bool.and_eq_false_iff, Bool.not_eq_false',
      List.any_eq_true, Function.comp, List.mem_filter] at ho ⊢
    refine ho.imp_left fun ⟨e, he, hf⟩ => ⟨e, ⟨he, ?_⟩, ?_⟩ <;> simp_all [Entry.isFenced, Entry.isTombstone]

theorem Slot.ortRemoval_calm : p.Calm p.ortRemoval := p.fenceAll_calm.trans (Slot.tombstoneClear_calm _)

/-- The posted entries at the head of a list are none of those that are owed. -/
theorem countP_dropWhile_posted (l : List Transaction) :
    (l.dropWhile fun tx => !nonPosted tx).countP nonPosted = l.countP nonPosted := by
  induction l with
  | nil => rfl
  | cons x xs ih => cases hx : nonPosted x <;> simp [hx, ih]

theorem dropWhile_posted_head {l : List Transaction} {tx : Transaction}
    (h : (l.dropWhile fun tx => !nonPosted tx).head? = some tx) : nonPosted tx = true := by
  have hne := List.head?_dropWhile_not (fun tx => !nonPosted tx) l
  rw [h] at hne
  simpa using hne

theorem Slot.dropPosted_headAwaits : p.dropPosted.HeadAwaits := fun _ h => dropWhile_posted_head h

/-- A queue whose head waits loses nothing to the containment path. -/
theorem dropWhile_posted_eq {l : List Transaction} (h : ∀ tx, l.head? = some tx → nonPosted tx = true) :
    (l.dropWhile fun tx => !nonPosted tx) = l := by
  cases l with
  | nil => rfl
  | cons x xs => simp [h x rfl]

theorem Slot.dropPosted_calm : p.Calm p.dropPosted := by
  refine .trans (q := { p with traffic := { p.traffic with
    sendQueue := p.traffic.sendQueue.dropWhile fun tx => !nonPosted tx } }) ?_ (Slot.countDroppedWrites_calm _ _)
  constructor
  · exact fun h => h.with_traffic ((List.dropWhile_suffix _).length_le.trans h.bounded.1) h.bounded.2.1 (.refl _) (.refl _)
  · simp only [Slot.debt, countP_dropWhile_posted]
  · exact fun n => rfl
  · exact fun h => ⟨fun _ => dropWhile_posted_head, by simp only [Slot.nothingOwed, dropWhile_posted_eq h, imp_self]⟩

/-- A change of the stage alone. -/
theorem Slot.with_stage_calm (st : Option Transaction) : p.Calm { p with traffic := { p.traffic with stage := st } } where
  data h := h.with_traffic h.bounded.1 h.bounded.2.1 (.refl _) (.refl _)
  debt := rfl
  answering _ := rfl
  owes h := ⟨h, id⟩

theorem Slot.closeStage_calm : p.Calm p.closeStage := by
  unfold Slot.closeStage
  split
  · split
    · exact .refl p
    · exact (p.with_stage_calm none).trans (Slot.countDroppedCardRequests_calm _ 1)
  · exact .refl p

theorem Slot.closeGates_calm : p.Calm p.closeGates :=
  p.closeStage_calm.trans ((Slot.dropPosted_calm _).trans (.of_traffic rfl fun h => h.with_detect h.detect))

/-! ### Phases with tombstone clear, trips, aborts, removals -/

theorem Slot.enterResetAssert_calm : p.Calm p.enterResetAssert :=
  p.assertReset_calm.trans ((Slot.tombstoneClear_calm _).trans (Slot.enterPhase_calm _ _ _))

theorem Slot.enterPowerOff_calm : p.Calm p.enterPowerOff :=
  p.assertReset_calm.trans ((Slot.setPower_calm _ _).trans ((Slot.tombstoneClear_calm _).trans
    (Slot.enterPhase_calm _ _ _)))

theorem Slot.continueIncident_calm (c : TripCause) (b : Bool) {view : TripView} (hv : p.DataOk → view.InRange) :
    p.Calm (p.continueIncident c b view) := by
  have hn : p.Calm (p.notePending fun r =>
      { r with further := r.further.add c ||| furtherOf b, tripState := .probation, view := view }) :=
    .of_traffic (by simp) fun h => h.notePending fun ⟨_, hrest⟩ => ⟨hv h, hrest⟩
  unfold Slot.continueIncident
  split
  · exact hn.trans (Slot.countAttempt_calm _)
  · exact hn

theorem Slot.abortSequence_calm : p.Calm p.abortSequence := by
  have hstop : ∀ q : Slot, q.Calm (q.stopSequence.setState .fenced).clearHeld := fun q =>
    q.stopSequence_calm.trans ((Slot.setState_calm _ _).trans (Slot.clearHeld_calm _))
  unfold Slot.abortSequence
  split
  · split
    · exact p.fenceAll_calm.trans (hstop _)
    · exact p.fenceAll_calm.trans ((Slot.assertReset_calm _).trans (hstop _))
  · exact p.closeGates_calm.trans ((Slot.fenceAll_calm _).trans ((Slot.assertReset_calm _).trans (hstop _)))
  · exact p.assertReset_calm.trans (hstop _)

theorem Slot.beginReset_calm : p.Calm p.beginReset := by
  have hq := p.stopSequence_calm.trans ((Slot.setState_calm _ .offline).trans (Slot.clearHeld_calm _))
  unfold Slot.beginReset
  dsimp only
  split
  · exact hq.trans ((Slot.closeGates_calm _).trans (Slot.fenceAll_calm _))
  · exact hq.trans (Slot.fenceAll_calm _)

theorem Slot.remove_calm : p.Calm p.remove := by
  have hend : ∀ g : Slot,
      g.Calm (((((g.stopSequence.setState .empty).clearHeld).ortRemoval.assertReset).setPower false).setPresent false) :=
    fun g => g.stopSequence_calm.trans ((Slot.setState_calm _ _).trans ((Slot.clearHeld_calm _).trans
      ((Slot.ortRemoval_calm _).trans ((Slot.assertReset_calm _).trans ((Slot.setPower_calm _ _).trans
        (Slot.setPresent_calm _ _))))))
  unfold Slot.remove
  dsimp only
  split
  · exact p.closeGates_calm.trans (hend _)
  · exact hend p

theorem Slot.resume_calm : p.Calm p.resume := by
  unfold Slot.resume
  split
  · exact p.clearHeld_calm.trans (Slot.issue_calm _)
  · exact p.clearHeld_calm

end Sys2Proof.Machine

/-! SUPPORT. What every operation of the sequencer keeps of the whole part: everything `State.Quiet` says, and of every
slot what `Slot.Calm` says. -/

namespace Sys2Proof.Machine

/-! ### The notice and what is presented -/

theorem State.present_presents {s : State}
    (h1 : s.presenting = some .answer → s.waitingAnswer.isSome = true)
    (h2 : s.presenting = some .notice → s.notices.unsent = true)
    (h3 : s.notices.unsent = true → s.notices.armed = true ∧ s.notices.summary.isClear = false) :
    s.present.Presents := by
  unfold State.present
  rcases hp : s.presenting with _ | x
  · cases hw : s.waitingAnswer <;> cases hu : s.notices.unsent <;> simp_all [State.Presents]
  · cases x <;> simp_all [State.Presents]

theorem State.queueNotice_presents {s : State}
    (h1 : s.presenting = some .answer → s.waitingAnswer.isSome = true)
    (h2 : s.presenting = some .notice → s.notices.unsent = true)
    (h3 : s.presenting = none → s.waitingAnswer = none ∧ s.notices.unsent = false)
    (hc : s.notices.summary.isClear = false) (hu : s.notices.unsent = true → s.notices.armed = true) :
    s.queueNotice.Presents := by
  unfold State.queueNotice
  split
  · next ha => exact State.present_presents h1 (fun _ => rfl) fun _ => ⟨ha, hc⟩
  · exact ⟨h1, h2, h3, fun h => ⟨hu h, hc⟩⟩

/-- Setting bits of the summary keeps what is presented in order. -/
theorem State.Presents.raiseSummary {s : State} (h : s.Presents) {f : Summary → Summary}
    (hf : (f s.notices.summary).isClear = false) : (s.raiseSummary f).Presents := by
  obtain ⟨h1, h2, h3, h4⟩ := h
  unfold State.raiseSummary
  dsimp only
  split
  · exact State.queueNotice_presents h1 h2 h3 hf fun h => (h4 h).1
  · exact ⟨h1, h2, h3, fun h => ⟨(h4 h).1, hf⟩⟩

theorem Summary.isClear_set (m : Summary) (i : SlotId) :
    ({ m with slots := m.slots.set i true } : Summary).isClear = false := by
  cases i <;> simp [Summary.isClear, PerSlot.set]

theorem State.Presents.raiseSlot {s : State} (h : s.Presents) (i : SlotId) : (s.raiseSlot i).Presents :=
  h.raiseSummary (Summary.isClear_set _ i)

theorem State.Presents.raiseKill {s : State} (h : s.Presents) : s.raiseKill.Presents :=
  h.raiseSummary (by simp [Summary.isClear])

/-- Withdrawing the notice leaves what is presented in order. -/
theorem State.withdrawNotice_presents {s : State} (h1 : s.presenting = some .answer → s.waitingAnswer.isSome = true) :
    s.withdrawNotice.Presents := by
  unfold State.withdrawNotice
  refine State.present_presents ?_ ?_ (by simp)
  · dsimp only
    split
    · exact fun h => absurd h (by simp)
    · exact h1
  · dsimp only
    split
    · exact fun h => absurd h (by simp)
    · next hn => exact fun h => absurd h hn

/-! ### Calm events -/

/-- From `s` to `t` only slots, rails, the sequence counter, the notice and the presentation differ, each slot calmly,
and the Management Function still presents what it holds. -/
structure State.Calm (s t : State) : Prop where
  quiet : s.Quiet t
  slots : ∀ i, (s.slot i).Calm (t.slot i)
  presents : s.Presents → t.Presents

namespace State.Calm

variable {s t u : State}

theorem refl (s : State) : s.Calm s := ⟨.refl s, fun _ => .refl _, id⟩

theorem trans (h : s.Calm t) (k : t.Calm u) : s.Calm u :=
  ⟨h.quiet.trans k.quiet, fun i => (h.slots i).trans (k.slots i), k.presents ∘ h.presents⟩

end State.Calm

variable (s : State) (i : SlotId)

theorem State.modSlot_calm {f : Slot → Slot} (h : (s.slot i).Calm (f (s.slot i))) : s.Calm (s.modSlot i f) := by
  refine ⟨s.modSlot_quiet i f, fun j => ?_, id⟩
  rw [State.slot_modSlot]
  split
  · next hj => exact hj ▸ h
  · exact .refl _

theorem State.setRail_calm (r : RailId) (v : Rail) : s.Calm (s.setRail r v) :=
  ⟨s.setRail_quiet r v, fun j => by rw [State.slot_setRail]; exact .refl _, by simp [State.Presents]⟩

theorem State.raiseSlot_calm : s.Calm (s.raiseSlot i) :=
  ⟨s.raiseSlot_quiet i, fun j => by rw [State.slot_raiseSlot]; exact .refl _, fun h => h.raiseSlot i⟩

theorem State.setSequence_calm (n : BitVec 16) : s.Calm { s with sequence := n } := ⟨rfl, fun _ => .refl _, id⟩

/-- The record an incident opens with is in range where its description is. -/
theorem Slot.openRecord_calm {p : Slot} {record : Incident} (h : p.DataOk → record.InRange) :
    p.Calm { p with previous := p.current, current := record } :=
  .of_traffic rfl fun hd => by
    obtain ⟨hb, hdis, ⟨h1, h2, h3, h4, h5, h6, h7, h8, h9, h10, h11, h12, h13, h14, h15, -⟩, hat⟩ := id hd
    exact ⟨hb, hdis, ⟨h1, h2, h3, h4, h5, h6, h7, h8, h9, h10, h11, h12, h13, h14, h hd, h15⟩, hat⟩

theorem State.openIncident_calm (kd : IncidentKind) (fc : FirstCause) (fu : CauseSet) (ts : TripState) {vw : TripView}
    (hv : (s.slot i).DataOk → vw.InRange) : s.Calm (s.openIncident i kd fc fu ts vw) := by
  unfold State.openIncident
  refine (s.setSequence_calm (s.sequence + 1)).trans ((State.modSlot_calm _ i ?_).trans (State.raiseSlot_calm _ i))
  exact Slot.openRecord_calm fun h =>
    ⟨hv h, Nat.zero_le _, Nat.zero_le _, Nat.zero_le _, Nat.zero_le _, Nat.zero_le _, Nat.zero_le _⟩

theorem Slot.clearAttempts_calm (p : Slot) : p.Calm { p with seq := { p.seq with attempts := PerLevel.all 0 } } :=
  .of_traffic rfl fun h => ⟨h.bounded, h.distinct, h.range, fun l => by cases l <;> exact Nat.zero_le _⟩

theorem Slot.closeRecord_calm (p : Slot) (oc : IncidentOutcome) (t : Option Ticks) :
    p.Calm { p with current := { p.current with outcome := oc, closeTime := t } } :=
  .of_traffic rfl fun h => h.with_current (c := { p.current with outcome := oc, closeTime := t }) h.current

theorem State.closeIncident_calm (oc : IncidentOutcome) : s.Calm (s.closeIncident i oc) := by
  have hc := s.modSlot_calm i (f := fun p => { p with seq := { p.seq with attempts := PerLevel.all 0 } })
    (Slot.clearAttempts_calm _)
  unfold State.closeIncident
  dsimp only
  split
  · exact hc.trans ((State.modSlot_calm _ i (Slot.closeRecord_calm _ oc _)).trans (State.raiseSlot_calm _ i))
  · exact hc

/-! ### Rails -/

theorem State.enterRailWait_calm : s.Calm (s.enterRailWait i) := by
  have hw := s.modSlot_calm i (f := fun p => p.enterPhase .railWait none) (Slot.enterPhase_calm _ _ _)
  unfold State.enterRailWait
  dsimp only
  split
  · exact hw.trans ((State.setRail_calm _ _ _).trans (State.modSlot_calm _ i (Slot.enterPowerOff_calm _)))
  · exact hw.trans (State.setRail_calm _ _ _)

theorem State.releaseRail_calm : s.Calm (s.releaseRail i) := by
  unfold State.releaseRail
  dsimp only
  split
  · split
    · exact (s.setRail_calm _ _).trans (State.modSlot_calm _ _ (Slot.enterPowerOff_calm _))
    · exact s.setRail_calm _ _
  · split
    · exact s.setRail_calm _ _
    · exact .refl s

/-! ### Return to service -/

theorem State.goOnline_calm : s.Calm (s.goOnline i) := by
  unfold State.goOnline
  refine (s.modSlot_calm i ?_).trans (State.closeIncident_calm _ i _)
  have h0 : (s.slot i).Calm { s.slot i with seq := { (s.slot i).seq with probationTimer := none } } :=
    .of_eq
  exact h0.trans ((Slot.setState_calm _ _).trans ((Slot.clearHeld_calm _).trans (Slot.reloadStall_calm _)))

theorem State.enterProbation_calm : s.Calm (s.enterProbation i) := by
  have hp := s.modSlot_calm i (s.slot i).enterProbation_calm
  unfold State.enterProbation
  dsimp only
  split
  · exact hp.trans (State.goOnline_calm _ i)
  · exact hp

theorem State.enterRestoring_calm : s.Calm (s.enterRestoring i) := by
  have hr := s.modSlot_calm i (f := fun p => p.enterPhase .restoring none) (Slot.enterPhase_calm _ _ _)
  unfold State.enterRestoring
  dsimp only
  split
  · exact hr.trans (State.modSlot_calm _ i (Slot.startStep_calm _ _ _))
  · exact hr.trans (State.enterProbation_calm _ i)

theorem State.settleDone_calm : s.Calm (s.settleDone i) := by
  unfold State.settleDone
  split
  · exact s.enterRestoring_calm i
  · exact s.enterProbation_calm i

theorem State.enterSettle_calm : s.Calm (s.enterSettle i) := by
  have hs := s.modSlot_calm i (f := fun p => p.stopExecutor.enterPhase .settle (some (units p.seq.sample.settle)))
    ((Slot.stopExecutor_calm _).trans (Slot.enterPhase_calm _ _ _))
  unfold State.enterSettle
  dsimp only
  split
  · exact hs.trans (State.settleDone_calm _ i)
  · exact hs

theorem State.enterResetRelease_calm : s.Calm (s.enterResetRelease i) := by
  have hr := s.modSlot_calm i
    (f := fun p => p.releaseReset.enterPhase .linkWait (some (units p.seq.sample.linkLimit)))
    ((Slot.releaseReset_calm _).trans (Slot.enterPhase_calm _ _ _))
  unfold State.enterResetRelease
  dsimp only
  split
  · exact hr.trans (State.enterSettle_calm _ i)
  · exact hr

theorem State.passStep_calm : s.Calm (s.passStep i) := by
  unfold State.passStep
  split
  · exact .refl s
  · split
    · exact s.modSlot_calm i (Slot.startStep_calm _ _ _)
    · exact s.enterProbation_calm i

/-! ### Retirement, failure, the ladder -/

theorem State.retire_calm (a : RetireAction) : s.Calm (s.retire i a) := by
  unfold State.retire
  refine (s.modSlot_calm i ?_).trans ((State.releaseRail_calm _ i).trans (State.closeIncident_calm _ i _))
  have hq := (s.slot i).stopSequence_calm.trans ((Slot.setState_calm _ .retired).trans
    ((Slot.clearHeld_calm _).trans (Slot.assertReset_calm _)))
  cases a
  · exact hq
  · exact hq.trans (Slot.setPower_calm _ _)

theorem State.failAdmission_calm : s.Calm (s.failAdmission i) := by
  unfold State.failAdmission
  exact (s.modSlot_calm i ((s.slot i).stopSequence_calm.trans ((Slot.setState_calm _ _).trans ((Slot.clearHeld_calm _).trans
    ((Slot.assertReset_calm _).trans (Slot.setPower_calm _ _)))))).trans
      ((State.releaseRail_calm _ i).trans (State.closeIncident_calm _ i _))

theorem State.enterFirstPhase_calm (l : Level) : s.Calm (s.enterFirstPhase i l) := by
  cases l
  · exact s.modSlot_calm i (Slot.enterFunctionReset_calm _)
  · exact s.modSlot_calm i (Slot.enterResetAssert_calm _)
  · exact s.enterRailWait_calm i

theorem State.beginAttempt_calm (l : Level) (b : Bool) : s.Calm (s.beginAttempt i l b) := by
  unfold State.beginAttempt
  refine (s.modSlot_calm i ?_).trans (State.enterFirstPhase_calm _ i l)
  split
  · exact (Slot.beginLevel_calm _ l).trans (Slot.assertReset_calm _)
  · exact Slot.beginLevel_calm _ l

theorem State.climb_calm (b : Bool) : s.Calm (s.climb i b) := by
  unfold State.climb
  split
  · exact s.retire_calm i _
  · split
    · exact s.beginAttempt_calm i _ _
    · have hf := s.modSlot_calm i (s.slot i).spendFunction_calm
      dsimp only
      split
      · exact hf.trans (State.retire_calm _ i _)
      · exact hf.trans (State.beginAttempt_calm _ i _ _)
  · exact s.beginAttempt_calm i _ _

theorem State.startRecovery_calm : s.Calm (s.startRecovery i) := by
  unfold State.startRecovery
  exact (s.modSlot_calm i (s.slot i).takeSample_calm).trans (State.climb_calm _ i _)

theorem State.failAttempt_calm : s.Calm (s.failAttempt i) := by
  unfold State.failAttempt
  split
  · exact s.failAdmission_calm i
  · refine (s.modSlot_calm i ?_).trans ((State.releaseRail_calm _ i).trans (State.climb_calm _ i _))
    have hq := (s.slot i).stopSequence_calm.trans (Slot.countAttempt_calm _)
    dsimp only
    split
    · exact hq.trans (Slot.setPower_calm _ _)
    · exact hq

theorem State.beginAdmission_calm : s.Calm (s.beginAdmission i) := by
  unfold State.beginAdmission
  exact s.beginAttempt_calm i _ _

/-! ### DRAINING, trips and aborts -/

theorem State.endDraining_calm : s.Calm (s.endDraining i) := by
  have ht := s.modSlot_calm i (f := fun p => { p.fenceAll with seq := { p.fenceAll.seq with drainTimer := none } })
    ((s.slot i).fenceAll_calm.trans (.of_eq))
  unfold State.endDraining
  dsimp only
  split
  · exact ht.trans (State.failAdmission_calm _ i)
  · have hf := ht.trans (State.modSlot_calm _ i (f := fun p => p.setState .fenced) (Slot.setState_calm _ _))
    split
    · exact hf.trans (State.startRecovery_calm _ i)
    · exact hf.trans (State.modSlot_calm _ i (Slot.clearHeld_calm _))

theorem State.drainIfIdle_calm : s.Calm (s.drainIfIdle i) := by
  unfold State.drainIfIdle
  split
  · exact s.endDraining_calm i
  · exact .refl s

theorem State.enterDraining_calm : s.Calm (s.enterDraining i) := by
  have ht := s.modSlot_calm i
    (f := fun p => { p.closeGates.setState .draining with seq := { (p.closeGates.setState .draining).seq with
      probationTimer := none, drainTimer := some (units (p.closeGates.setState .draining).seq.plan.drain) } })
    ((s.slot i).closeGates_calm.trans ((Slot.setState_calm _ .draining).trans
      (.of_eq)))
  unfold State.enterDraining
  dsimp only
  split
  · exact ht.trans (State.endDraining_calm _ i)
  · exact ht

theorem State.trip_calm (c : TripCause) (b : Bool) {view : TripView} (hv : (s.slot i).DataOk → view.InRange) :
    s.Calm (s.trip i c b view) := by
  unfold State.trip
  cases (s.slot i).seq.state with
  | online =>
    exact (s.openIncident_calm i _ _ _ _ hv).trans ((State.modSlot_calm _ i (Slot.countTrip_calm _)).trans
      (State.enterDraining_calm _ i))
  | probation =>
    exact (s.modSlot_calm i ((Slot.continueIncident_calm _ c b hv).trans (Slot.countTrip_calm _))).trans
      (State.enterDraining_calm _ i)
  | empty | offline | draining | fenced | recovering | retired => exact .refl s

/-- What the ORT and the Deadline Unit give a record is in range (R45, R60). -/
theorem Slot.DataOk.tripView {p : Slot} (h : p.DataOk) (now : Ticks) : (p.tripView now).InRange := by
  obtain ⟨⟨-, -, hort, -⟩, -, ⟨-, -, -, hm, hc, -⟩, -⟩ := h
  refine ⟨List.countP_le_length.trans hort, ?_, ?_, ?_⟩
  · intro n hn
    obtain ⟨e, -, rfl⟩ := Option.map_eq_some_iff.1 (Option.mem_def.1 hn)
    exact Nat.min_le_left ..
  · have hle := hm.1
    simp only [Slot.tripView]
    omega
  · have hle := hc.1
    simp only [Slot.tripView]
    omega

theorem State.tripNow_calm (c : TripCause) : s.Calm (s.tripNow i c) := s.trip_calm i c false fun h => h.tripView _

theorem State.abort_calm : s.Calm (s.abort i) := by
  unfold State.abort
  exact (s.modSlot_calm i (Slot.abortSequence_calm _)).trans (State.releaseRail_calm _ i)

theorem State.takeKill_calm : s.Calm (s.takeKill i) := by
  have hf := s.modSlot_calm i (f := fun p => p.addFurther .external) (Slot.addFurther_calm _ _)
  unfold State.takeKill
  cases (s.slot i).seq.state with
  | online | probation => exact s.tripNow_calm i _
  | draining | recovering => exact hf.trans (State.abort_calm _ i)
  | fenced => exact hf
  | empty | offline | retired => exact .refl s

/-! ### Commands of the sequencer -/

theorem Slot.DataOk.admissionView {p : Slot} (h : p.DataOk) : p.admissionView.InRange := by
  obtain ⟨-, -, ⟨-, -, -, hm, hc, -⟩, -⟩ := h
  have hm := hm.1
  have hc := hc.1
  refine ⟨Nat.zero_le _, fun n hn => absurd (Option.mem_def.1 hn) (by simp [Slot.admissionView]), ?_, ?_⟩ <;>
  · simp only [Slot.admissionView]
    omega

theorem State.admitSlot_calm : s.Calm (s.admitSlot i) := by
  have ht := s.modSlot_calm i (s.slot i).takeSample_calm
  refine ht.trans ((State.openIncident_calm _ i _ _ _ _ ?_).trans (State.beginAdmission_calm _ i))
  intro h
  have hview : (s.slot i).admissionView = ((s.modSlot i Slot.takeSample).slot i).admissionView := by
    simp [Slot.admissionView]
  rw [hview]
  exact h.admissionView

theorem State.recoverSlot_calm : s.Calm (s.recoverSlot i) := by
  unfold State.recoverSlot
  split
  · exact s.startRecovery_calm i
  · exact (s.modSlot_calm i (s.slot i).takeSample_calm).trans (State.beginAdmission_calm _ i)

theorem State.releaseSlot_calm : s.Calm (s.releaseSlot i) := by
  unfold State.releaseSlot
  exact (s.modSlot_calm i ((Slot.setState_calm _ _).trans ((Slot.clearHeld_calm _).trans (Slot.assertReset_calm _)))).trans
    (State.closeIncident_calm _ i _)

theorem State.removalIncident_calm {before : Slot} (hb : (s.slot i).DataOk → before.DataOk) :
    s.Calm (s.removalIncident i before) := by
  unfold State.removalIncident
  split
  · exact (s.openIncident_calm i _ _ _ _ fun h => (hb h).tripView _).trans (State.closeIncident_calm _ i _)
  · exact s.closeIncident_calm i _

theorem State.beginResetSlot_calm : s.Calm (s.beginResetSlot i) := by
  unfold State.beginResetSlot
  split
  · exact s.modSlot_calm i (Slot.clearHealth_calm _)
  · exact (s.closeIncident_calm i _).trans ((State.modSlot_calm _ i (Slot.beginReset_calm _)).trans
      (State.modSlot_calm _ i (Slot.clearHealth_calm _)))

/-- A calm event at each of several slots is a calm event. -/
theorem State.foldl_calm {f : State → SlotId → State} (hf : ∀ u j, State.Calm u (f u j)) (l : List SlotId) :
    s.Calm (l.foldl f s) := by
  induction l generalizing s with
  | nil => exact .refl s
  | cons j js ih => exact (hf s j).trans (ih _)

end Sys2Proof.Machine

/-! SUPPORT. What one slot's sequencer, lines and records hold in each slot state, and how the operations of one slot lead
from one state to the next. -/

namespace Sys2Proof.Machine

/-! ### A slot that fits its state -/

/-- Slot state, sequencer, lines, records and traffic of one slot agree: the invariants of `State.Sound` that speak of one
slot's state. With `idle` a DRAINING slot without a LIVE entry is let pass, which stands between two drains that one event
ends; with `killed` the slot is out of service and not RECOVERING, as KILL demands. -/
structure Slot.Fits (idle killed : Bool) (p : Slot) : Prop where
  shaped : p.Shaped
  lined : p.Lined
  recorded : p.Recorded
  within : p.WithinSample
  live : 0 < p.liveCount → p.serving = true ∨ p.seq.state = .draining
  drains : idle = false → p.seq.state = .draining → 0 < p.liveCount
  awaits : p.NoPostedHead
  out : killed = true → p.serving = false ∧ p.seq.state ≠ .recovering

/-- A card is seated, POWER-ENABLE is legal, the previous record is closed. -/
structure Slot.Seated (p : Slot) : Prop where
  present : p.lines.present = true
  power : p.lines.powerControl = false → p.lines.powerEnable = false
  previous : p.previous.outcome ≠ .pending

/-- A seated slot out of service: nothing LIVE, its Send Queue held by the containment path. -/
structure Slot.Contained (p : Slot) : Prop where
  seated : p.Seated
  none_live : p.liveCount = 0
  awaits : p.HeadAwaits

/-- A PENDING record with the sequencer's attempt counts, which are within the sample. -/
structure Slot.Pending (p : Slot) : Prop where
  outcome : p.current.outcome = .pending
  copied : p.current.attempts = p.seq.attempts
  within : ∀ l, p.seq.attempts.get l ≤ p.seq.sample.attempts.get l

/-- No sequence is in progress: no phase, no drain or probation timer, no access of the executor. -/
structure Slot.Halted (p : Slot) : Prop where
  phase : p.seq.phase = none
  drainTimer : p.seq.drainTimer = none
  probationTimer : p.seq.probationTimer = none
  inFlight : p.exec.inFlight = none
  withheld : p.exec.withheld = false

/-- The level of an attempt in progress has an attempt left, if a fault is being recovered from. -/
def Slot.LevelLeft (p : Slot) : Prop :=
  p.seq.level ≠ none ∧ ∀ l, p.seq.level = some l → p.current.kind = .fault →
    p.seq.attempts.get l < p.seq.sample.attempts.get l

/-- A RECOVERING slot, whatever phase it is in or about to enter. -/
structure Slot.Attempting (p : Slot) : Prop where
  contained : p.Contained
  pending : p.Pending
  state : p.seq.state = .recovering
  level : p.LevelLeft
  drainTimer : p.seq.drainTimer = none
  probationTimer : p.seq.probationTimer = none

/-- A DRAINING slot, with LIVE entries or without. -/
structure Slot.Draining (p : Slot) : Prop where
  seated : p.Seated
  pending : p.Pending
  awaits : p.HeadAwaits
  state : p.seq.state = .draining
  level : p.seq.level = none
  phase : p.seq.phase = none
  drainTimer : p.seq.drainTimer.isSome = true
  probationTimer : p.seq.probationTimer = none
  inFlight : p.exec.inFlight = none
  withheld : p.exec.withheld = false

/-! ### What these predicates depend on -/

section Congruence

variable {p q : Slot}

theorem Slot.Seated.congr (h : p.Seated) (hp : q.lines.present = p.lines.present := by simp)
    (hc : q.lines.powerControl = p.lines.powerControl := by simp)
    (he : q.lines.powerEnable = p.lines.powerEnable ∨ q.lines.powerEnable = false := by simp)
    (hv : q.previous = p.previous := by simp) : q.Seated := by
  refine ⟨hp.trans h.present, fun hq => ?_, hv ▸ h.previous⟩
  obtain he | he := he
  · exact he.trans (h.power (hc ▸ hq))
  · exact he

theorem Slot.Contained.congr (h : p.Contained) (hl : q.liveCount = p.liveCount := by simp [Slot.liveCount])
    (hs : q.traffic.sendQueue = p.traffic.sendQueue := by simp)
    (hp : q.lines.present = p.lines.present := by simp)
    (hc : q.lines.powerControl = p.lines.powerControl := by simp)
    (he : q.lines.powerEnable = p.lines.powerEnable ∨ q.lines.powerEnable = false := by simp)
    (hv : q.previous = p.previous := by simp) : q.Contained :=
  ⟨h.seated.congr hp hc he hv, hl.trans h.none_live, by simpa only [Slot.HeadAwaits, hs] using h.awaits⟩

theorem Slot.Pending.congr (h : p.Pending) (hc : q.current.outcome = p.current.outcome := by simp)
    (hk : q.current.attempts = p.current.attempts := by simp) (ha : q.seq.attempts = p.seq.attempts := by simp)
    (hs : q.seq.sample = p.seq.sample := by simp) : q.Pending :=
  ⟨hc.trans h.outcome, by rw [hk, ha, h.copied], by rw [ha, hs]; exact h.within⟩

theorem Slot.LevelLeft.congr (h : p.LevelLeft) (hl : q.seq.level = p.seq.level := by simp)
    (hk : q.current.kind = p.current.kind := by simp) (ha : q.seq.attempts = p.seq.attempts := by simp)
    (hs : q.seq.sample = p.seq.sample := by simp) : q.LevelLeft := by
  simpa only [Slot.LevelLeft, hl, hk, ha, hs] using h

end Congruence

/-! ### Each slot state by its own facts -/

section States

variable {p : Slot} {d k : Bool}

theorem Slot.noPostedHead_of (h : p.HeadAwaits) : p.NoPostedHead := fun _ => h

theorem Slot.NoPostedHead.awaits (h : p.NoPostedHead) (hs : p.serving = false) : p.HeadAwaits := h hs

/-- OFFLINE and RETIRED: contained, halted, no record PENDING, nothing counted. -/
theorem Slot.Fits.of_rest (hc : p.Contained) (hh : p.Halted) (hs : p.seq.state = .offline ∨ p.seq.state = .retired)
    (hl : p.seq.level = none) (hd : p.seq.held = false) (ho : p.current.outcome ≠ .pending)
    (ha : p.seq.attempts = PerLevel.all 0) : p.Fits d k := by
  obtain ⟨⟨h1, h2, h3⟩, h4, h5⟩ := hc
  obtain ⟨h6, h7, h8, h9, h10⟩ := hh
  have hget : ∀ l, (PerLevel.all 0).get l = 0 := by intro l; cases l <;> rfl
  obtain hs | hs := hs <;>
  · constructor <;>
      simp_all [Slot.Shaped, Slot.Lined, Slot.Recorded, Slot.WithinSample, SlotState.inSequence, Slot.NoPostedHead, Slot.HeadAwaits,
        Slot.serving, SlotState.serving]

/-- FENCED: contained, halted, the record PENDING. -/
theorem Slot.Fits.of_fenced (hc : p.Contained) (hh : p.Halted) (hp : p.Pending) (hs : p.seq.state = .fenced)
    (hl : p.seq.level = none) (hd : p.seq.held = false) : p.Fits d k := by
  obtain ⟨⟨h1, h2, h3⟩, h4, h5⟩ := hc
  obtain ⟨h6, h7, h8, h9, h10⟩ := hh
  obtain ⟨h11, h12, h13⟩ := hp
  constructor <;>
    simp_all [Slot.Shaped, Slot.Lined, Slot.Recorded, Slot.WithinSample, SlotState.inSequence, Slot.NoPostedHead, Slot.HeadAwaits,
      Slot.serving, SlotState.serving]

/-- DRAINING with something LIVE. -/
theorem Slot.Draining.fits (h : p.Draining) (hl : d = false → 0 < p.liveCount) : p.Fits d k := by
  obtain ⟨⟨h1, h2, h3⟩, ⟨h11, h12, h13⟩, h5, hs, hlev, h6, h7, h8, h9, h10⟩ := h
  constructor <;>
    simp_all [Slot.Shaped, Slot.Lined, Slot.Recorded, Slot.WithinSample, SlotState.inSequence, Slot.NoPostedHead, Slot.HeadAwaits,
      Slot.serving, SlotState.serving]

/-- RECOVERING: in a phase that goes with the lines and the executor. -/
theorem Slot.Attempting.fits (h : p.Attempting) {ph : Phase} (hph : p.seq.phase = some ph) (hr : ph ≠ .resetRelease)
    (hx : p.exec.inFlight.isSome = true → executorPhase (some ph) = true)
    (hw : p.exec.withheld = true → executorPhase (some ph) = true ∧ p.seq.held = true)
    (hra : ph = .resetAssert → p.lines.slotReset = true)
    (hoff : ph = .powerOff → p.lines.slotReset = true ∧ p.lines.powerEnable = false)
    (hon : ph = .powerOn → p.lines.slotReset = true ∧ p.lines.powerEnable = p.lines.powerControl) : p.Fits d false := by
  obtain ⟨⟨⟨h1, h2, h3⟩, h4, h5⟩, ⟨h11, h12, h13⟩, hs, ⟨hn, hl⟩, h7, h8⟩ := h
  have hsome : p.seq.level.isSome = true := Option.isSome_iff_ne_none.2 hn
  constructor <;>
    simp_all [Slot.Shaped, Slot.Lined, Slot.Recorded, Slot.WithinSample, SlotState.inSequence, Slot.NoPostedHead, Slot.HeadAwaits,
      Slot.serving, SlotState.serving]

/-- PROBATION. -/
theorem Slot.Fits.of_probation (hc : p.Seated) (hp : p.Pending) (hs : p.seq.state = .probation) (hl : p.LevelLeft)
    (h6 : p.seq.phase = none) (h7 : p.seq.drainTimer = none) (h8 : p.seq.probationTimer.isSome = true)
    (h9 : p.exec.inFlight = none) (h10 : p.exec.withheld = false) : p.Fits d false := by
  obtain ⟨h1, h2, h3⟩ := hc
  obtain ⟨h11, h12, h13⟩ := hp
  obtain ⟨hn, hl⟩ := hl
  have hsome : p.seq.level.isSome = true := Option.isSome_iff_ne_none.2 hn
  constructor <;>
    simp_all [Slot.Shaped, Slot.Lined, Slot.Recorded, Slot.WithinSample, SlotState.inSequence, Slot.NoPostedHead,
      Slot.serving, SlotState.serving]

/-- ONLINE. -/
theorem Slot.Fits.of_online (hc : p.Seated) (hh : p.Halted) (hs : p.seq.state = .online)
    (hl : p.seq.level = none) (hd : p.seq.held = false) (ho : p.current.outcome ≠ .pending)
    (ha : p.seq.attempts = PerLevel.all 0) : p.Fits d false := by
  obtain ⟨h1, h2, h3⟩ := hc
  obtain ⟨h6, h7, h8, h9, h10⟩ := hh
  have hget : ∀ l, (PerLevel.all 0).get l = 0 := by intro l; cases l <;> rfl
  constructor <;>
    simp_all [Slot.Shaped, Slot.Lined, Slot.Recorded, Slot.WithinSample, SlotState.inSequence, Slot.NoPostedHead,
      Slot.serving, SlotState.serving]

/-- EMPTY: no card, in reset and without power. -/
theorem Slot.Fits.of_empty (hp : p.lines.present = false) (hr : p.lines.slotReset = true)
    (he : p.lines.powerEnable = false) (hv : p.previous.outcome ≠ .pending) (hlive : p.liveCount = 0) (hw : p.HeadAwaits)
    (hh : p.Halted) (hs : p.seq.state = .empty)
    (hl : p.seq.level = none) (hd : p.seq.held = false) (ho : p.current.outcome ≠ .pending)
    (ha : p.seq.attempts = PerLevel.all 0) : p.Fits d k := by
  obtain ⟨h6, h7, h8, h9, h10⟩ := hh
  have hget : ∀ l, (PerLevel.all 0).get l = 0 := by intro l; cases l <;> rfl
  constructor <;>
    simp_all [Slot.Shaped, Slot.Lined, Slot.Recorded, Slot.WithinSample, SlotState.inSequence, Slot.NoPostedHead, Slot.HeadAwaits,
      Slot.serving, SlotState.serving]

/-! ### What a fitting slot holds, by its state -/

theorem Slot.Fits.seated (h : p.Fits d k) (hs : p.seq.state ≠ .empty) : p.Seated := by
  refine ⟨?_, h.lined.2.2.1, h.recorded.2.1⟩
  have hiff := h.lined.1
  cases hp : p.lines.present
  · exact absurd (hiff.1 hp) hs
  · rfl

theorem Slot.Fits.not_live (h : p.Fits d k) (hs : p.serving = false) (hd : p.seq.state ≠ .draining) : p.liveCount = 0 := by
  by_contra hne
  obtain h1 | h1 := h.live (Nat.pos_of_ne_zero hne)
  · simp [hs] at h1
  · exact hd h1

theorem Slot.Fits.contained (h : p.Fits d k) (he : p.seq.state ≠ .empty) (hs : p.serving = false)
    (hd : p.seq.state ≠ .draining) : p.Contained :=
  ⟨h.seated he, h.not_live hs hd, h.awaits hs⟩

theorem Slot.Fits.pending (h : p.Fits d k) (hs : p.seq.state = .fenced ∨ p.seq.state.inSequence = true) : p.Pending :=
  have ho := h.recorded.1.2 hs
  ⟨ho, h.recorded.2.2.1 ho, h.within.1⟩

/-- A slot whose record is not PENDING is in none of the states that have one, and nothing is counted. -/
theorem Slot.Fits.closed (h : p.Fits d k) (hf : p.seq.state ≠ .fenced) (hs : p.seq.state.inSequence = false) :
    p.current.outcome ≠ .pending ∧ p.seq.attempts = PerLevel.all 0 := by
  have ho : p.current.outcome ≠ .pending := fun hp => by
    obtain h1 | h1 := h.recorded.1.1 hp
    · exact hf h1
    · simp [hs] at h1
  exact ⟨ho, h.recorded.2.2.2 ho⟩

/-- No sequence is in progress outside RECOVERING, DRAINING and PROBATION. -/
theorem Slot.Fits.halted (h : p.Fits d k) (hs : p.seq.state.inSequence = false) :
    p.Halted ∧ p.seq.level = none ∧ p.seq.held = false := by
  obtain ⟨h1, h2, h3, h4, h5, h6, h7, -⟩ := h.shaped
  have hstates : p.seq.state ≠ .recovering ∧ p.seq.state ≠ .draining ∧ p.seq.state ≠ .probation := by
    refine ⟨?_, ?_, ?_⟩ <;> intro hc <;> simp [hc, SlotState.inSequence] at hs
  have hph : p.seq.phase = none := by
    rw [← Option.not_isSome_iff_eq_none, h1]
    exact hstates.1
  have hnx : executorPhase p.seq.phase = false := by rw [hph]; rfl
  refine ⟨⟨hph, ?_, ?_, ?_, ?_⟩, ?_, ?_⟩
  · rw [← Option.not_isSome_iff_eq_none, h4]; exact hstates.2.1
  · rw [← Option.not_isSome_iff_eq_none, h5]; exact hstates.2.2
  · rw [← Option.not_isSome_iff_eq_none]; intro hc; simp [h6 hc] at hnx
  · cases hw : p.exec.withheld
    · rfl
    · simp [(h7 hw).1] at hnx
  · rw [← Option.not_isSome_iff_eq_none, h2]; exact fun hc => hc.elim hstates.1 hstates.2.2
  · cases hh : p.seq.held
    · rfl
    · simp [h3 hh] at hs

theorem Slot.Fits.draining (h : p.Fits d k) (hs : p.seq.state = .draining) : p.Draining := by
  obtain ⟨h1, h2, -, h4, h5, h6, h7, -⟩ := h.shaped
  have hph : p.seq.phase = none := by rw [← Option.not_isSome_iff_eq_none, h1, hs]; simp
  have hnx : executorPhase p.seq.phase = false := by rw [hph]; rfl
  refine ⟨h.seated (by simp [hs]), h.pending (by simp [hs, SlotState.inSequence]),
    h.awaits (by simp [Slot.serving, hs, SlotState.serving]), hs, ?_, hph, h4.2 hs, ?_, ?_, ?_⟩
  · rw [← Option.not_isSome_iff_eq_none, h2, hs]; simp
  · rw [← Option.not_isSome_iff_eq_none, h5, hs]; simp
  · rw [← Option.not_isSome_iff_eq_none]; intro hc; simp [h6 hc] at hnx
  · cases hw : p.exec.withheld
    · rfl
    · simp [(h7 hw).1] at hnx

theorem Slot.Fits.attempting (h : p.Fits d k) (hs : p.seq.state = .recovering) : p.Attempting := by
  obtain ⟨-, h2, -, h4, h5, -, -, -⟩ := h.shaped
  refine ⟨h.contained (by simp [hs]) (by simp [Slot.serving, hs, SlotState.serving]) (by simp [hs]),
    h.pending (by simp [hs, SlotState.inSequence]), hs, ⟨?_, h.within.2⟩, ?_, ?_⟩
  · exact Option.isSome_iff_ne_none.1 (h2.2 (.inl hs))
  · rw [← Option.not_isSome_iff_eq_none, h4, hs]; simp
  · rw [← Option.not_isSome_iff_eq_none, h5, hs]; simp

/-- A serving slot has no phase, no drain timer and no access. -/
theorem Slot.Fits.serving_halted (h : p.Fits d k) (hs : p.serving = true) :
    p.seq.phase = none ∧ p.seq.drainTimer = none ∧ p.exec.inFlight = none ∧ p.exec.withheld = false := by
  obtain ⟨h1, -, -, h4, -, h6, h7, -⟩ := h.shaped
  have hst : p.seq.state ≠ .recovering ∧ p.seq.state ≠ .draining := by
    refine ⟨?_, ?_⟩ <;> intro hc <;> simp [Slot.serving, hc, SlotState.serving] at hs
  have hph : p.seq.phase = none := by rw [← Option.not_isSome_iff_eq_none, h1]; exact hst.1
  have hnx : executorPhase p.seq.phase = false := by rw [hph]; rfl
  refine ⟨hph, ?_, ?_, ?_⟩
  · rw [← Option.not_isSome_iff_eq_none, h4]; exact hst.2
  · rw [← Option.not_isSome_iff_eq_none]; intro hc; simp [h6 hc] at hnx
  · cases hw : p.exec.withheld
    · rfl
    · simp [(h7 hw).1] at hnx

theorem Slot.serving_iff : p.serving = true ↔ p.seq.state = .online ∨ p.seq.state = .probation := by
  cases hs : p.seq.state <;> simp [Slot.serving, SlotState.serving, hs]

theorem Slot.not_serving_of (ho : p.seq.state ≠ .online) (hp : p.seq.state ≠ .probation) : p.serving = false :=
  Slot.serving_eq_false ho hp

theorem Slot.Fits.weaken (h : p.Fits false k) : p.Fits d k := { h with drains := fun _ => h.drains rfl }

theorem Slot.Fits.unkilled (h : p.Fits d k) : p.Fits d false := { h with out := fun hk => absurd hk (by decide) }

end States

end Sys2Proof.Machine

/-! SUPPORT. The operations of the sequencer lead a slot from a state it fits to a state it fits, whatever the other slots
are doing, and keep the Rail Arbiter's grants with the phases that call for them. -/

namespace Sys2Proof.Machine

/-! ### Operations of one slot -/

/-- A change of a PENDING record leaves what it does not write. -/
theorem Slot.notePending_field {β : Type} (p : Slot) {f : Incident → Incident} (g : Incident → β)
    (h : g (f p.current) = g p.current) : g (p.notePending f).current = g p.current := by
  unfold Slot.notePending
  split
  · exact h
  · rfl

@[simp] theorem Slot.raiseHighest_outcome (p : Slot) (l : Level) :
    (p.raiseHighest l).current.outcome = p.current.outcome := p.notePending_field Incident.outcome rfl
@[simp] theorem Slot.raiseHighest_kind (p : Slot) (l : Level) :
    (p.raiseHighest l).current.kind = p.current.kind := p.notePending_field Incident.kind rfl
@[simp] theorem Slot.raiseHighest_attempts (p : Slot) (l : Level) :
    (p.raiseHighest l).current.attempts = p.current.attempts := p.notePending_field Incident.attempts rfl

@[simp] theorem Slot.beginLevel_seq (p : Slot) (l : Level) :
    (p.beginLevel l).seq = { p.seq with state := .recovering, level := some l } := by simp [Slot.beginLevel]
@[simp] theorem Slot.beginLevel_outcome (p : Slot) (l : Level) :
    (p.beginLevel l).current.outcome = p.current.outcome := by simp [Slot.beginLevel]
@[simp] theorem Slot.beginLevel_kind (p : Slot) (l : Level) :
    (p.beginLevel l).current.kind = p.current.kind := by simp [Slot.beginLevel]
@[simp] theorem Slot.beginLevel_attempts (p : Slot) (l : Level) :
    (p.beginLevel l).current.attempts = p.current.attempts := by simp [Slot.beginLevel]

@[simp] theorem Slot.setAttempts_outcome (p : Slot) (a : PerLevel) :
    (p.setAttempts a).current.outcome = p.current.outcome := Slot.notePending_field _ Incident.outcome rfl
@[simp] theorem Slot.setAttempts_kind (p : Slot) (a : PerLevel) :
    (p.setAttempts a).current.kind = p.current.kind := Slot.notePending_field _ Incident.kind rfl

/-- The record of a PENDING incident takes the attempt counts too. -/
theorem Slot.setAttempts_attempts {p : Slot} (a : PerLevel) (h : p.current.outcome = .pending) :
    (p.setAttempts a).current.attempts = a := by simp [Slot.setAttempts, Slot.notePending, h]

theorem tombstoneClear_liveCount (p : Slot) :
    Machine.liveCount p.tombstoneClear.traffic.ort = Machine.liveCount p.traffic.ort := by
  simp only [Slot.tombstoneClear, Machine.liveCount, List.countP_map, List.countP_filter]
  refine List.countP_congr fun e _ => ?_
  cases hs : e.state <;> simp [Entry.isLive, Entry.isTombstone, hs]

@[simp] theorem Slot.tombstoneClear_sendQueue (p : Slot) :
    p.tombstoneClear.traffic.sendQueue = p.traffic.sendQueue := rfl
@[simp] theorem Slot.fenceAll_sendQueue (p : Slot) : p.fenceAll.traffic.sendQueue = p.traffic.sendQueue := rfl

/-- A stopped sequence leaves nothing of itself. -/
theorem Slot.stopSequence_halted (p : Slot) : p.stopSequence.Halted := by constructor <;> simp

theorem Slot.Halted.congr {p q : Slot} (h : p.Halted) (h1 : q.seq.phase = p.seq.phase := by simp)
    (h2 : q.seq.drainTimer = p.seq.drainTimer := by simp) (h3 : q.seq.probationTimer = p.seq.probationTimer := by simp)
    (h4 : q.exec.inFlight = p.exec.inFlight := by simp) (h5 : q.exec.withheld = p.exec.withheld := by simp) : q.Halted :=
  ⟨h1.trans h.phase, h2.trans h.drainTimer, h3.trans h.probationTimer, h4.trans h.inFlight, h5.trans h.withheld⟩

/-- An attempt at a level begins from a halted slot whose record is PENDING. -/
theorem Slot.Contained.beginLevel {p : Slot} (hc : p.Contained) (hp : p.Pending) (hh : p.Halted) {l : Level}
    (hl : p.current.kind = .fault → p.seq.attempts.get l < p.seq.sample.attempts.get l) :
    (p.beginLevel l).Attempting ∧ (p.beginLevel l).Halted := by
  refine ⟨⟨hc.congr, hp.congr, by simp, ⟨by simp, ?_⟩, by simpa using hh.drainTimer, by simpa using hh.probationTimer⟩,
    hh.congr⟩
  intro m hm hk
  simp only [Slot.beginLevel_seq, Option.some.injEq] at hm ⊢
  subst hm
  exact hl (by simpa using hk)

theorem Slot.Attempting.congr {p q : Slot} (h : p.Attempting)
    (h1 : q.liveCount = p.liveCount := by simp [Slot.liveCount])
    (h2 : q.traffic.sendQueue = p.traffic.sendQueue := by simp)
    (h3 : q.lines.present = p.lines.present := by simp)
    (h4 : q.lines.powerControl = p.lines.powerControl := by simp)
    (h5 : q.lines.powerEnable = p.lines.powerEnable ∨ q.lines.powerEnable = false := by simp)
    (h6 : q.previous = p.previous := by simp) (h7 : q.current = p.current := by simp)
    (h8 : q.seq.attempts = p.seq.attempts := by simp) (h9 : q.seq.sample = p.seq.sample := by simp)
    (h10 : q.seq.state = p.seq.state := by simp) (h11 : q.seq.level = p.seq.level := by simp)
    (h12 : q.seq.drainTimer = p.seq.drainTimer := by simp)
    (h13 : q.seq.probationTimer = p.seq.probationTimer := by simp) : q.Attempting :=
  ⟨h.contained.congr h1 h2 h3 h4 h5 h6, h.pending.congr (by rw [h7]) (by rw [h7]) h8 h9, h10.trans h.state,
    h.level.congr h11 (by rw [h7]) h8 h9, h12.trans h.drainTimer, h13.trans h.probationTimer⟩

section Phases

variable {p : Slot} {d : Bool}

/-- What the executor holds after issuing, in a phase that it serves. -/
theorem Slot.issue_exec (p : Slot) :
    (p.issue.exec.inFlight.isSome = true → p.exec.inFlight.isSome = true ∨ executorPhase p.seq.phase = true) ∧
      (p.issue.exec.withheld = true →
        p.exec.withheld = true ∨ (executorPhase p.seq.phase = true ∧ p.seq.held = true)) := by
  unfold Slot.issue
  cases ha : p.phaseAccess with
  | none => exact ⟨.inl, .inl⟩
  | some a =>
    have hph := p.phaseAccess_phase ha
    cases hh : p.seq.held
    · simp [hph]
    · exact ⟨.inl, fun _ => .inr ⟨hph, rfl⟩⟩

/-- An access issued in a phase of the executor leaves a fitting slot. -/
theorem Slot.Attempting.issue_fits (h : p.Attempting) {ph : Phase} (hph : p.seq.phase = some ph)
    (hx : executorPhase (some ph) = true) (hw : p.exec.withheld = true → p.seq.held = true) : p.issue.Fits d false := by
  have hq : p.issue.Attempting := h.congr
  refine hq.fits (ph := ph) (by simpa using hph) ?_ (fun _ => hx) (fun hs => ⟨hx, ?_⟩) ?_ ?_ ?_
  · rintro rfl; simp [executorPhase] at hx
  · obtain hw' | hw' := p.issue_exec.2 hs
    · simpa using hw hw'
    · simpa using hw'.2
  all_goals rintro rfl; simp [executorPhase] at hx

theorem Slot.Attempting.enterFunctionReset (h : p.Attempting) : p.enterFunctionReset.Fits d false :=
  Slot.Attempting.issue_fits (h.congr) (ph := .functionReset) rfl rfl fun hw => absurd hw (by simp)

theorem Slot.Attempting.enterResetAssert (h : p.Attempting) (h9 : p.exec.inFlight = none) (h10 : p.exec.withheld = false) :
    p.enterResetAssert.Fits d false := by
  have hq : p.enterResetAssert.Attempting := h.congr (tombstoneClear_liveCount _)
    rfl rfl rfl (.inl rfl) rfl rfl rfl rfl rfl rfl rfl rfl
  exact hq.fits (ph := .resetAssert) rfl (by simp) (fun hx => absurd hx (by simp [h9]))
    (fun hx => absurd hx (by simp [h10])) (fun _ => rfl) (fun hx => absurd hx (by simp)) (fun hx => absurd hx (by simp))

theorem Slot.Attempting.enterPowerOff (h : p.Attempting) (h9 : p.exec.inFlight = none) (h10 : p.exec.withheld = false) :
    p.enterPowerOff.Fits d false := by
  have hq : p.enterPowerOff.Attempting := h.congr (tombstoneClear_liveCount _)
    rfl rfl rfl (.inr rfl) rfl rfl rfl rfl rfl rfl rfl rfl
  exact hq.fits (ph := .powerOff) rfl (by simp) (fun hx => absurd hx (by simp [h9]))
    (fun hx => absurd hx (by simp [h10])) (fun hx => absurd hx (by simp)) (fun _ => ⟨rfl, rfl⟩)
    (fun hx => absurd hx (by simp))

/-- A phase that asks nothing of lines and executor is entered. -/
theorem Slot.Attempting.enterPhase (h : p.Attempting) (h9 : p.exec.inFlight = none) (h10 : p.exec.withheld = false)
    {ph : Phase} (hph : ph = .railWait ∨ ph = .linkWait ∨ ph = .settle ∨ ph = .restoring) (t : UnitTimer) :
    (p.enterPhase ph t).Fits d false := by
  have hq : (p.enterPhase ph t).Attempting := h.congr
  refine hq.fits (ph := ph) rfl ?_ (fun hx => absurd hx (by simp [h9])) (fun hx => absurd hx (by simp [h10])) ?_ ?_ ?_ <;>
  · rcases hph with rfl | rfl | rfl | rfl <;> simp

/-- A slot outside the executor's phases has no access in flight or withheld. -/
theorem Slot.Fits.no_access {k : Bool} (h : p.Fits d k) (hph : executorPhase p.seq.phase = false) :
    p.exec.inFlight = none ∧ p.exec.withheld = false := by
  obtain ⟨-, -, -, -, -, h6, h7, -⟩ := h.shaped
  refine ⟨?_, ?_⟩
  · rw [← Option.not_isSome_iff_eq_none]; intro hc; simp [h6 hc] at hph
  · cases hw : p.exec.withheld
    · rfl
    · simp [(h7 hw).1] at hph

end Phases

/-! ### The other slots and the rails -/

/-- Every slot but one fits its state, and every rail but for that slot's part in it. -/
structure State.FitsBut (idle killed : SlotId → Bool) (s : State) (i : SlotId) : Prop where
  others : ∀ j, j ≠ i → (s.slot j).Fits (idle j) (killed j)
  grants : ∀ j, j ≠ i → s.GrantOk j
  rails : ∀ r, s.RailOk r
  kill : killed i = true → s.kill = true

/-- Every slot fits its state, and this one's drain is not idle. -/
structure State.FitsAt (idle killed : SlotId → Bool) (s : State) (i : SlotId) : Prop where
  but : s.FitsBut idle killed i
  slot : (s.slot i).Fits false (killed i)
  grant : s.GrantOk i

/-- The slot neither holds its rail nor waits for it. -/
def State.Unrailed (s : State) (i : SlotId) : Prop :=
  (s.rail i.rail).holder ≠ some i ∧ (s.rail i.rail).waiting ≠ some i

section Contracts

variable {idle killed : SlotId → Bool} {s t : State} {i : SlotId}

theorem State.FitsBut.congr (h : s.FitsBut idle killed i) (hs : ∀ j, j ≠ i → t.slot j = s.slot j)
    (hr : ∀ r, t.rail r = s.rail r) (hk : t.kill = s.kill) : t.FitsBut idle killed i where
  others j hj := by rw [hs j hj]; exact h.others j hj
  grants j hj := by simpa only [State.GrantOk, hs j hj, hr] using h.grants j hj
  rails r := by simpa only [State.RailOk, hr] using h.rails r
  kill hki := by rw [hk]; exact h.kill hki

theorem State.rail_of {s t : State} (ha : t.railA = s.railA) (hb : t.railB = s.railB) (r : RailId) :
    t.rail r = s.rail r := by cases r <;> assumption

theorem State.FitsBut.modSlot (h : s.FitsBut idle killed i) (f : Slot → Slot) : (s.modSlot i f).FitsBut idle killed i :=
  h.congr (fun j hj => by simp [hj]) (fun r => by simp) rfl

theorem State.FitsBut.closeIncident (h : s.FitsBut idle killed i) (oc : IncidentOutcome) :
    (s.closeIncident i oc).FitsBut idle killed i :=
  h.congr (fun j hj => by simp [hj]) (State.rail_of (by simp) (by simp)) (by simp)

theorem State.FitsBut.openIncident (h : s.FitsBut idle killed i) (kd : IncidentKind) (fc : FirstCause) (fu : CauseSet)
    (ts : TripState) (vw : TripView) : (s.openIncident i kd fc fu ts vw).FitsBut idle killed i :=
  h.congr (fun j hj => by simp [hj]) (State.rail_of (by simp) (by simp)) (by simp)

theorem State.Unrailed.congr (h : s.Unrailed i) (hr : ∀ r, t.rail r = s.rail r) : t.Unrailed i := by
  simpa only [State.Unrailed, hr] using h

theorem State.Unrailed.modSlot (h : s.Unrailed i) (j : SlotId) (f : Slot → Slot) : (s.modSlot j f).Unrailed i :=
  h.congr fun r => by simp

theorem State.Unrailed.closeIncident (h : s.Unrailed i) (oc : IncidentOutcome) : (s.closeIncident i oc).Unrailed i :=
  h.congr (State.rail_of (by simp) (by simp))

theorem State.Unrailed.openIncident (h : s.Unrailed i) (kd : IncidentKind) (fc : FirstCause) (fu : CauseSet)
    (ts : TripState) (vw : TripView) : (s.openIncident i kd fc fu ts vw).Unrailed i :=
  h.congr (State.rail_of (by simp) (by simp))

/-- A slot in a phase without a rail fits where it has no part in a rail. -/
theorem State.FitsBut.done (h : s.FitsBut idle killed i) (hu : s.Unrailed i) (hf : (s.slot i).Fits false (killed i))
    (hg : grantPhase (s.slot i).seq.phase = false) (hw : (s.slot i).seq.phase ≠ some .railWait) :
    s.FitsAt idle killed i := by
  refine ⟨h, hf, ?_, ?_⟩
  · simp only [hg, Bool.false_eq_true, false_iff]
    exact hu.1
  · simp only [hw, false_iff]
    exact hu.2

theorem grantPhase_none {p : Slot} (h : p.seq.phase = none) :
    grantPhase p.seq.phase = false ∧ p.seq.phase ≠ some .railWait := by simp [h, grantPhase]

/-- A rail has two slots. -/
theorem rail_two {i j k : SlotId} (h1 : i.rail = j.rail) (h2 : k.rail = j.rail) (hij : i ≠ j) (hkj : k ≠ j) : i = k := by
  cases i <;> cases j <;> cases k <;> simp_all [SlotId.rail]

/-- A fitting slot in no rail phase has no part in its rail. -/
theorem State.GrantOk.unrailed (h : s.GrantOk i) (hg : grantPhase (s.slot i).seq.phase = false)
    (hw : (s.slot i).seq.phase ≠ some .railWait) : s.Unrailed i := by
  refine ⟨fun hc => ?_, fun hc => hw (h.2.2 hc)⟩
  simp [h.1.2 hc] at hg

theorem State.RailOk.holder_rail {r : RailId} (h : s.RailOk r) {j : SlotId} (hj : (s.rail r).holder = some j) :
    j.rail = r := h.1 j hj

/-- Giving up the rail, whether the slot holds it, waits for it or neither, and a waiting partner enters POWER_OFF
(R131, R132). -/
theorem State.FitsBut.releaseRail (h : s.FitsBut idle killed i) :
    (s.releaseRail i).FitsBut idle killed i ∧ (s.releaseRail i).Unrailed i ∧ (s.releaseRail i).slot i = s.slot i := by
  have hrail := h.rails i.rail
  unfold State.releaseRail
  dsimp only
  by_cases hhold : (s.rail i.rail).holder = some i
  · rw [if_pos hhold]
    cases hwait : (s.rail i.rail).waiting with
    | some w =>
      obtain ⟨hwr, -, hwh⟩ := hrail.2 w hwait
      have hwi : w ≠ i := fun hc => hwh (hc ▸ hhold)
      have hg := h.grants w hwi
      have hfit := h.others w hwi
      have hphase : (s.slot w).seq.phase = some .railWait := hg.2.2 (by rw [hwr]; exact hwait)
      have hrec : (s.slot w).seq.state = .recovering := hfit.shaped.1.1 (by rw [hphase]; rfl)
      have hkw : killed w = false := by
        cases hk : killed w
        · rfl
        · exact absurd hrec (hfit.out hk).2
      obtain ⟨hx1, hx2⟩ := hfit.no_access (by rw [hphase]; rfl)
      dsimp only
      refine ⟨⟨fun j hj => ?_, fun j hj => ?_, fun r => ?_, fun hk => ?_⟩, ?_, ?_⟩
      · by_cases hjw : j = w
        · subst hjw
          simp only [State.slot_modSlot_same, State.slot_setRail, hkw]
          exact (hfit.attempting hrec).enterPowerOff hx1 hx2
        · simp only [State.slot_modSlot_ne _ _ _ _ hjw, State.slot_setRail]
          exact h.others j hj
      · by_cases hjw : j = w
        · subst hjw
          simp [State.GrantOk, hwr, Slot.enterPowerOff, grantPhase]
        · have hgj := h.grants j hj
          by_cases hjr : j.rail = i.rail
          · exact absurd (rail_two hjr hwr hj hwi) hjw
          · simpa [State.GrantOk, hjw, hjr] using hgj
      · by_cases hr : r = i.rail
        · subst hr
          simp only [State.RailOk, State.rail_modSlot, State.rail_setRail_same]
          exact ⟨fun j hj => by cases hj; exact hwr, fun j hj => by cases hj⟩
        · simpa [State.RailOk, hr] using h.rails r
      · simpa using h.kill hk
      · simp [State.Unrailed, hwi]
      · simp [Ne.symm hwi]
    | none =>
      dsimp only
      refine ⟨⟨fun j hj => by simpa using h.others j hj, fun j hj => ?_, fun r => ?_, by simpa using h.kill⟩, ?_, by simp⟩
      · have hgj := h.grants j hj
        by_cases hjr : j.rail = i.rail
        · simp only [State.GrantOk, hjr, State.slot_setRail, State.rail_setRail_same, hhold, hwait] at hgj ⊢
          simpa [Ne.symm hj] using hgj
        · simpa [State.GrantOk, hjr] using hgj
      · by_cases hr : r = i.rail
        · subst hr
          simp [State.RailOk]
        · simpa [State.RailOk, hr] using h.rails r
      · simp [State.Unrailed]
  · rw [if_neg hhold]
    split
    · next hwait =>
      refine ⟨⟨fun j hj => by simpa using h.others j hj, fun j hj => ?_, fun r => ?_, by simpa using h.kill⟩, ?_, by simp⟩
      · have hgj := h.grants j hj
        by_cases hjr : j.rail = i.rail
        · simp only [State.GrantOk, hjr, State.slot_setRail, State.rail_setRail_same, hwait] at hgj ⊢
          simpa [Ne.symm hj] using hgj
        · simpa [State.GrantOk, hjr] using hgj
      · by_cases hr : r = i.rail
        · subst hr
          simpa [State.RailOk] using hrail.1
        · simpa [State.RailOk, hr] using h.rails r
      · simp [State.Unrailed, hhold]
    · next hwait => exact ⟨h, ⟨hhold, hwait⟩, rfl⟩

/-- The request for the rail: granted on a free rail, else waiting (R109, R130). -/
theorem State.FitsBut.enterRailWait (h : s.FitsBut idle killed i) (hu : s.Unrailed i) (ha : (s.slot i).Attempting)
    (h9 : (s.slot i).exec.inFlight = none) (h10 : (s.slot i).exec.withheld = false) (hk : killed i = false) :
    (s.enterRailWait i).FitsAt idle killed i := by
  have hrail := h.rails i.rail
  unfold State.enterRailWait
  dsimp only
  cases hhold : (s.rail i.rail).holder with
  | none =>
    have hwait : (s.rail i.rail).waiting = none := by
      cases hw : (s.rail i.rail).waiting with
      | none => rfl
      | some w => simpa [hhold] using (hrail.2 w hw).2.1
    dsimp only
    have hat : ((s.slot i).enterPhase .railWait none).Attempting := ha.congr
    refine ⟨⟨fun j hj => by simpa [hj] using h.others j hj, fun j hj => ?_, fun r => ?_, by simpa using h.kill⟩, ?_, ?_⟩
    · have hgj := h.grants j hj
      by_cases hjr : j.rail = i.rail
      · simp only [State.GrantOk, hjr, State.slot_modSlot_ne _ _ _ _ hj, State.slot_setRail, State.rail_modSlot,
          State.rail_setRail_same, hhold, hwait] at hgj ⊢
        simpa [Ne.symm hj] using hgj
      · simpa [State.GrantOk, hj, hjr] using hgj
    · by_cases hr : r = i.rail
      · subst hr
        simp [State.RailOk, hwait]
      · simpa [State.RailOk, hr] using h.rails r
    · simp only [State.slot_modSlot_same, State.slot_setRail, hk]
      exact hat.enterPowerOff h9 h10
    · simp [State.GrantOk, Slot.enterPowerOff, grantPhase, hwait]
  | some g =>
    have hgi : g ≠ i := fun hc => hu.1 (hc ▸ hhold)
    have hgr := hrail.1 g hhold
    have hwait : (s.rail i.rail).waiting = none := by
      cases hw : (s.rail i.rail).waiting with
      | none => rfl
      | some w =>
        obtain ⟨hwr, -, hwh⟩ := hrail.2 w hw
        have hwi : w ≠ i := fun hc => hu.2 (hc ▸ hw)
        exact absurd (rail_two hgr hwr hgi hwi ▸ hhold) hwh
    dsimp only
    refine ⟨⟨fun j hj => by simpa [hj] using h.others j hj, fun j hj => ?_, fun r => ?_, by simpa using h.kill⟩, ?_, ?_⟩
    · have hgj := h.grants j hj
      by_cases hjr : j.rail = i.rail
      · simp only [State.GrantOk, hjr, State.slot_modSlot_ne _ _ _ _ hj, State.slot_setRail,
          State.rail_setRail_same, hhold, hwait] at hgj ⊢
        simpa [Ne.symm hj] using hgj
      · simpa [State.GrantOk, hj, hjr] using hgj
    · by_cases hr : r = i.rail
      · subst hr
        simp [State.RailOk, hgr, hgi]
      · simpa [State.RailOk, hr] using h.rails r
    · simp only [State.slot_modSlot_same, State.slot_setRail, hk]
      exact ha.enterPhase h9 h10 (.inl rfl) _
    · simp [State.GrantOk, grantPhase, hgi]

end Contracts

end Sys2Proof.Machine

/-! SUPPORT. Retirement, the ladder, the return to service, DRAINING, trips, aborts, removal and admission: each leaves
every slot in a state it fits. -/

namespace Sys2Proof.Machine

variable {idle killed : SlotId → Bool} {s t : State} {i : SlotId}

/-! ### The closing of an incident -/

/-- A slot after its incident has closed: nothing counted, a PENDING record with its outcome and close time. -/
def Slot.closedAs (p : Slot) (oc : IncidentOutcome) (time : Ticks) : Slot :=
  { p with
    seq := { p.seq with attempts := PerLevel.all 0 }
    current := if p.current.outcome = .pending then
        { p.current with outcome := oc, closeTime := some time } else p.current }

theorem State.slot_closeIncident_same (s : State) (i : SlotId) (oc : IncidentOutcome) :
    (s.closeIncident i oc).slot i = (s.slot i).closedAs oc s.time.now := by
  simp only [State.closeIncident, Slot.closedAs]
  split <;> simp [*]

/-- The slot of an incident that opens: its current record becomes the previous one, and the new one is PENDING with
nothing counted. -/
theorem State.slot_openIncident_same (s : State) (i : SlotId) (kd : IncidentKind) (fc : FirstCause) (fu : CauseSet)
    (ts : TripState) (vw : TripView) : ∃ r : Incident, r.outcome = .pending ∧ r.attempts = PerLevel.all 0 ∧ r.kind = kd ∧
      (s.openIncident i kd fc fu ts vw).slot i =
        { s.slot i with previous := (s.slot i).current, current := r } := by
  unfold State.openIncident
  dsimp only
  rw [State.slot_raiseSlot, State.slot_modSlot_same]
  exact ⟨_, rfl, rfl, rfl, rfl⟩

theorem Slot.closedAs_outcome (p : Slot) {oc : IncidentOutcome} (time : Ticks) (h : oc ≠ .pending) :
    (p.closedAs oc time).current.outcome ≠ .pending := by
  unfold Slot.closedAs
  dsimp only
  split <;> assumption

theorem Slot.Halted.closedAs {p : Slot} (h : p.Halted) (oc : IncidentOutcome) (time : Ticks) : (p.closedAs oc time).Halted :=
  h.congr rfl rfl rfl rfl rfl

theorem Slot.Contained.closedAs {p : Slot} (h : p.Contained) (oc : IncidentOutcome) (time : Ticks) :
    (p.closedAs oc time).Contained := h.congr rfl rfl rfl rfl (.inl rfl) rfl

/-! ### Retirement and failed admission -/

/-- A slot put to rest, OFFLINE or RETIRED, its rail given up and its incident closed. -/
theorem State.FitsBut.rest (h : s.FitsBut idle killed i) {f : Slot → Slot} {oc : IncidentOutcome} (ho : oc ≠ .pending)
    (hc : (f (s.slot i)).Contained) (hh : (f (s.slot i)).Halted)
    (hs : (f (s.slot i)).seq.state = .offline ∨ (f (s.slot i)).seq.state = .retired)
    (hl : (f (s.slot i)).seq.level = none) (hd : (f (s.slot i)).seq.held = false) :
    (((s.modSlot i f).releaseRail i).closeIncident i oc).FitsAt idle killed i := by
  obtain ⟨hb, hu, hslot⟩ := (h.modSlot f).releaseRail
  rw [State.slot_modSlot_same] at hslot
  have hq := hslot ▸ State.slot_closeIncident_same ((s.modSlot i f).releaseRail i) i oc
  have hhalt := hh.closedAs oc (((s.modSlot i f).releaseRail i)).time.now
  refine (hb.closeIncident oc).done (hu.closeIncident oc) ?_ ?_ ?_
  · rw [hq]
    exact .of_rest (hc.closedAs _ _) hhalt hs hl hd (Slot.closedAs_outcome _ _ ho) rfl
  · rw [hq]
    exact (grantPhase_none hhalt.phase).1
  · rw [hq]
    exact (grantPhase_none hhalt.phase).2

theorem State.FitsBut.retire (h : s.FitsBut idle killed i) (hc : (s.slot i).Contained) (a : RetireAction) :
    (s.retire i a).FitsAt idle killed i := by
  have hhalt := (s.slot i).stopSequence_halted
  unfold State.retire
  cases a
  · exact h.rest (by simp) hc.congr hhalt.congr (.inr rfl) rfl rfl
  · exact h.rest (by simp) hc.congr hhalt.congr (.inr rfl) rfl rfl

theorem State.FitsBut.failAdmission (h : s.FitsBut idle killed i) (hc : (s.slot i).Contained) :
    (s.failAdmission i).FitsAt idle killed i :=
  h.rest (by simp) hc.congr (Slot.stopSequence_halted (s.slot i)).congr (.inl rfl) rfl rfl

/-! ### The ladder -/

/-- An attempt begins at a level that has one left. -/
theorem State.FitsBut.beginAttempt (h : s.FitsBut idle killed i) (hu : s.Unrailed i) (hk : killed i = false)
    (hc : (s.slot i).Contained) (hp : (s.slot i).Pending) (hh : (s.slot i).Halted) {l : Level}
    (hl : (s.slot i).current.kind = .fault → (s.slot i).seq.attempts.get l < (s.slot i).seq.sample.attempts.get l)
    (b : Bool) : (s.beginAttempt i l b).FitsAt idle killed i := by
  obtain ⟨ha, hha⟩ := hc.beginLevel hp hh hl
  let f : Slot → Slot := fun p => if b && l != .function then (p.beginLevel l).assertReset else p.beginLevel l
  have hat : (f (s.slot i)).Attempting := by
    dsimp only [f]
    split
    · exact ha.congr
    · exact ha
  have hhat : (f (s.slot i)).Halted := by
    dsimp only [f]
    split
    · exact hha.congr
    · exact hha
  have hb := h.modSlot f
  have hub := hu.modSlot i f
  have hslot : (s.modSlot i f).slot i = f (s.slot i) := by simp
  unfold State.beginAttempt
  cases l with
  | function =>
    refine (hb.modSlot Slot.enterFunctionReset).done (hub.modSlot i _) ?_ ?_ ?_
    · rw [State.slot_modSlot_same, hslot, hk]; exact hat.enterFunctionReset
    · rw [State.slot_modSlot_same]; simp [Slot.enterFunctionReset, grantPhase]
    · rw [State.slot_modSlot_same]; simp [Slot.enterFunctionReset]
  | slot =>
    refine (hb.modSlot Slot.enterResetAssert).done (hub.modSlot i _) ?_ ?_ ?_
    · rw [State.slot_modSlot_same, hslot, hk]; exact hat.enterResetAssert hhat.inFlight hhat.withheld
    · rw [State.slot_modSlot_same]; simp [Slot.enterResetAssert, grantPhase]
    · rw [State.slot_modSlot_same]; simp [Slot.enterResetAssert]
  | power =>
    exact hb.enterRailWait hub (hslot ▸ hat) (hslot ▸ hhat.inFlight) (hslot ▸ hhat.withheld) hk

/-- The level called for has an attempt left (R103). -/
theorem Slot.levelCalledFor_left {p : Slot} {l : Level} (h : p.levelCalledFor = some l) :
    p.seq.attempts.get l < p.seq.sample.attempts.get l := by
  have hl := List.find?_some h
  simp only [Bool.and_eq_true, decide_eq_true_eq] at hl
  exact hl.2

/-- What the ladder needs: contained, halted, PENDING. -/
theorem Slot.spendFunction_ready {p : Slot} (hc : p.Contained) (hp : p.Pending) (hh : p.Halted) :
    p.spendFunction.Contained ∧ p.spendFunction.Pending ∧ p.spendFunction.Halted := by
  refine ⟨hc.congr, ⟨?_, ?_, fun l => ?_⟩, hh.congr (by simp [Slot.spendFunction]) (by simp [Slot.spendFunction])
    (by simp [Slot.spendFunction])⟩
  · simpa [Slot.spendFunction] using hp.outcome
  · rw [Slot.spendFunction, Slot.setAttempts_attempts _ (by simpa using hp.outcome), Slot.setAttempts_seq]
  · simp only [Slot.spendFunction, Slot.setAttempts_seq, Slot.raiseHighest_seq, PerLevel.get_set]
    split
    · next hl => subst hl; rfl
    · exact hp.within l

theorem State.FitsBut.climb (h : s.FitsBut idle killed i) (hu : s.Unrailed i) (hk : killed i = false)
    (hc : (s.slot i).Contained) (hp : (s.slot i).Pending) (hh : (s.slot i).Halted) (b : Bool) :
    (s.climb i b).FitsAt idle killed i := by
  unfold State.climb
  split
  · exact h.retire hc _
  · next hl =>
    split
    · exact h.beginAttempt hu hk hc hp hh (fun _ => Slot.levelCalledFor_left hl) _
    · obtain ⟨hc', hp', hh'⟩ := Slot.spendFunction_ready hc hp hh
      have hslot : (s.modSlot i Slot.spendFunction).slot i = (s.slot i).spendFunction := by simp
      have hb := h.modSlot Slot.spendFunction
      dsimp only
      split
      · exact hb.retire (hslot ▸ hc') _
      · next hl' =>
        exact hb.beginAttempt (hu.modSlot i _) hk (hslot ▸ hc') (hslot ▸ hp') (hslot ▸ hh')
          (fun _ => Slot.levelCalledFor_left hl') _
  · next hl => exact h.beginAttempt hu hk hc hp hh (fun _ => Slot.levelCalledFor_left hl) _

/-- A sample taken keeps the attempt counts within it, in the record too (R102). -/
theorem Slot.Pending.takeSample {p : Slot} (h : p.current.outcome = .pending) : p.takeSample.Pending := by
  refine ⟨by simpa [Slot.takeSample] using h, ?_, fun l => ?_⟩
  · rw [Slot.takeSample, Slot.setAttempts_attempts (p := { p with seq := { p.seq with sample := p.seq.plan } }) _ h,
      Slot.setAttempts_seq]
  · simp only [Slot.takeSample, Slot.setAttempts_seq, PerLevel.get_lowerTo]
    exact Nat.min_le_right ..

@[simp] theorem Slot.takeSample_outcome (p : Slot) : p.takeSample.current.outcome = p.current.outcome :=
  Slot.notePending_field _ Incident.outcome rfl
@[simp] theorem Slot.takeSample_kind (p : Slot) : p.takeSample.current.kind = p.current.kind :=
  Slot.notePending_field _ Incident.kind rfl
theorem Slot.takeSample_seq (p : Slot) : p.takeSample.seq =
    { p.seq with sample := p.seq.plan, attempts := p.seq.attempts.lowerTo p.seq.plan.attempts } := by
  simp [Slot.takeSample]

theorem Slot.Halted.takeSample {p : Slot} (h : p.Halted) : p.takeSample.Halted :=
  h.congr (by simp [Slot.takeSample_seq]) (by simp [Slot.takeSample_seq]) (by simp [Slot.takeSample_seq])

theorem State.FitsBut.startRecovery (h : s.FitsBut idle killed i) (hu : s.Unrailed i) (hk : killed i = false)
    (hc : (s.slot i).Contained) (hp : (s.slot i).Pending) (hh : (s.slot i).Halted) :
    (s.startRecovery i).FitsAt idle killed i := by
  have hslot : (s.modSlot i Slot.takeSample).slot i = (s.slot i).takeSample := by simp
  exact (h.modSlot _).climb (hu.modSlot i _) hk (hslot ▸ hc.congr) (hslot ▸ .takeSample hp.outcome)
    (hslot ▸ hh.takeSample) _

/-! ### Failed attempts -/

/-- A failed attempt stays within the sample: the level of an attempt in progress had one left (R112). -/
theorem Slot.Pending.countAttempt {p : Slot} (hp : p.Pending)
    (hl : ∀ l, p.seq.level = some l → p.seq.attempts.get l < p.seq.sample.attempts.get l) : p.countAttempt.Pending := by
  unfold Slot.countAttempt
  split
  · next l hlev =>
    refine ⟨by simpa using hp.outcome, ?_, fun m => ?_⟩
    · rw [Slot.setAttempts_attempts _ hp.outcome, Slot.setAttempts_seq]
    · have hm := hp.within m
      have hlt := hl l hlev
      simp only [Slot.setAttempts_seq, PerLevel.get_set]
      split
      · next hml => subst hml; exact (Nat.min_le_right ..).trans hlt
      · exact hm
  · exact hp

@[simp] theorem Slot.countAttempt_kind (p : Slot) : p.countAttempt.current.kind = p.current.kind := by
  unfold Slot.countAttempt
  split
  · exact Slot.setAttempts_kind _ _
  · rfl

theorem Slot.countAttempt_control (p : Slot) : p.countAttempt.seq = { p.seq with attempts := p.countAttempt.seq.attempts } := by
  unfold Slot.countAttempt
  split <;> simp

theorem Slot.Halted.countAttempt {p : Slot} (h : p.Halted) : p.countAttempt.Halted :=
  h.congr (by rw [Slot.countAttempt_control]) (by rw [Slot.countAttempt_control]) (by rw [Slot.countAttempt_control])

theorem State.FitsBut.failAttempt (h : s.FitsBut idle killed i) (hk : killed i = false) (ha : (s.slot i).Attempting) :
    (s.failAttempt i).FitsAt idle killed i := by
  unfold State.failAttempt
  split
  · exact h.failAdmission ha.contained
  · next hkind =>
    let f : Slot → Slot := fun p =>
      let q := p.stopSequence.countAttempt
      if p.seq.phase = some .powerOn then q.setPower false else q
    have hp : (s.slot i).stopSequence.countAttempt.Pending := by
      refine Slot.Pending.countAttempt ha.pending.congr fun l hl => ?_
      simpa using ha.level.2 l (by simpa using hl) hkind
    have hh : (s.slot i).stopSequence.countAttempt.Halted := (Slot.stopSequence_halted _).countAttempt
    have hc : (s.slot i).stopSequence.countAttempt.Contained := ha.contained.congr
    have hf : (f (s.slot i)).Contained ∧ (f (s.slot i)).Pending ∧ (f (s.slot i)).Halted := by
      dsimp only [f]
      split
      · exact ⟨hc.congr, hp.congr, hh.congr⟩
      · exact ⟨hc, hp, hh⟩
    obtain ⟨hb, hu, hslot⟩ := (h.modSlot f).releaseRail
    rw [State.slot_modSlot_same] at hslot
    exact hb.climb hu hk (hslot ▸ hf.1) (hslot ▸ hf.2.1) (hslot ▸ hf.2.2) _

/-! ### The return to service -/

/-- PROBATION is entered from a RECOVERING slot. -/
theorem Slot.Attempting.enterProbation {p : Slot} {d : Bool} (h : p.Attempting) : p.enterProbation.Fits d false := by
  have hs := p.stopSequence_halted
  exact .of_probation (h.contained.seated.congr) (h.pending.congr (by simp) (by simp) (by simp [Slot.enterProbation])
    (by simp [Slot.enterProbation])) rfl
    (h.level.congr (by simp [Slot.enterProbation]) (by simp) (by simp [Slot.enterProbation]) (by simp [Slot.enterProbation]))
    hs.phase hs.drainTimer rfl hs.inFlight hs.withheld

theorem State.FitsBut.goOnline (h : s.FitsBut idle killed i) (hu : s.Unrailed i) (hk : killed i = false)
    (hf : (s.slot i).Fits false false) (hs : (s.slot i).seq.state = .probation) :
    (s.goOnline i).FitsAt idle killed i := by
  let f : Slot → Slot := fun p =>
    (({ p with seq := { p.seq with probationTimer := none } }.setState .online).clearHeld).reloadStall
  obtain ⟨h6, h7, h9, h10⟩ := hf.serving_halted (Slot.serving_iff.2 (.inr hs))
  have hh : (f (s.slot i)).Halted := ⟨h6, h7, rfl, h9, h10⟩
  have hq := State.slot_closeIncident_same (s.modSlot i f) i .recovered
  rw [State.slot_modSlot_same] at hq
  have hb : (s.goOnline i).slot i = (f (s.slot i)).closedAs .recovered s.time.now := hq
  refine ((h.modSlot f).closeIncident _).done ((hu.modSlot i f).closeIncident _) ?_ ?_ ?_
  · rw [hq, hk]
    exact .of_online ((hf.seated (by simp [hs])).congr rfl rfl (.inl rfl) rfl) (hh.closedAs _ _) rfl rfl rfl
      (Slot.closedAs_outcome _ _ (by simp)) rfl
  · rw [hq]
    exact (grantPhase_none (hh.closedAs _ _).phase).1
  · rw [hq]
    exact (grantPhase_none (hh.closedAs _ _).phase).2

theorem State.FitsBut.enterProbation (h : s.FitsBut idle killed i) (hu : s.Unrailed i) (hk : killed i = false)
    (ha : (s.slot i).Attempting) : (s.enterProbation i).FitsAt idle killed i := by
  have hslot : (s.modSlot i Slot.enterProbation).slot i = (s.slot i).enterProbation := by simp
  have hph : (s.slot i).enterProbation.seq.phase = none := (s.slot i).stopSequence_halted.phase
  unfold State.enterProbation
  dsimp only
  split
  · exact (h.modSlot _).goOnline (hu.modSlot i _) hk (hslot ▸ ha.enterProbation) (by rw [hslot]; rfl)
  · refine (h.modSlot _).done (hu.modSlot i _) ?_ ?_ ?_
    · rw [hslot, hk]; exact ha.enterProbation
    · rw [hslot]; exact (grantPhase_none hph).1
    · rw [hslot]; exact (grantPhase_none hph).2

theorem Slot.loadStep_access (x : Executor) (k n : Nat) (st : Step) :
    (x.loadStep k n st).inFlight = none ∧ (x.loadStep k n st).withheld = false := by cases st <;> exact ⟨rfl, rfl⟩

/-- A step starts in RESTORING. -/
theorem State.FitsBut.startStep (h : s.FitsBut idle killed i) (hu : s.Unrailed i) (hk : killed i = false)
    (ha : (s.slot i).Attempting) (hph : (s.slot i).seq.phase = some .restoring) (k : Nat) (st : Step) :
    (s.modSlot i fun p => p.startStep k st).FitsAt idle killed i := by
  refine (h.modSlot _).done (hu.modSlot i _) ?_ ?_ ?_
  · rw [State.slot_modSlot_same, hk]
    exact Slot.Attempting.issue_fits ha.congr (ph := .restoring) hph rfl
      fun hw => absurd hw (by simp [Slot.loadStep_access])
  · simp [hph, grantPhase]
  · simp [hph]

theorem State.FitsBut.enterRestoring (h : s.FitsBut idle killed i) (hu : s.Unrailed i) (hk : killed i = false)
    (ha : (s.slot i).Attempting) : (s.enterRestoring i).FitsAt idle killed i := by
  have hslot : (s.modSlot i fun p => p.enterPhase .restoring none).slot i = (s.slot i).enterPhase .restoring none := by simp
  have hat : ((s.slot i).enterPhase .restoring none).Attempting := ha.congr
  unfold State.enterRestoring
  dsimp only
  split
  · exact (h.modSlot _).startStep (hu.modSlot i _) hk (hslot ▸ hat) (by rw [hslot]; rfl) _ _
  · exact (h.modSlot _).enterProbation (hu.modSlot i _) hk (hslot ▸ hat)

theorem State.FitsBut.settleDone (h : s.FitsBut idle killed i) (hu : s.Unrailed i) (hk : killed i = false)
    (ha : (s.slot i).Attempting) : (s.settleDone i).FitsAt idle killed i := by
  unfold State.settleDone
  split
  · exact h.enterRestoring hu hk ha
  · exact h.enterProbation hu hk ha

theorem State.FitsBut.enterSettle (h : s.FitsBut idle killed i) (hu : s.Unrailed i) (hk : killed i = false)
    (ha : (s.slot i).Attempting) : (s.enterSettle i).FitsAt idle killed i := by
  let f : Slot → Slot := fun p => p.stopExecutor.enterPhase .settle (some (units p.seq.sample.settle))
  have hslot : (s.modSlot i f).slot i = f (s.slot i) := by simp
  have hst : (s.slot i).stopExecutor.Attempting := ha.congr
  have hat : ((s.slot i).stopExecutor.enterPhase .settle (some (units (s.slot i).seq.sample.settle))).Attempting :=
    hst.congr
  unfold State.enterSettle
  dsimp only
  split
  · exact (h.modSlot f).settleDone (hu.modSlot i f) hk (by rw [hslot]; exact hat)
  · refine (h.modSlot f).done (hu.modSlot i f) ?_ ?_ ?_
    · rw [hslot, hk]
      exact hst.enterPhase (by simp) (by simp) (.inr (.inr (.inl rfl))) _
    · simp [f, grantPhase]
    · simp [f]

theorem State.FitsBut.enterResetRelease (h : s.FitsBut idle killed i) (hu : s.Unrailed i) (hk : killed i = false)
    (ha : (s.slot i).Attempting) (h9 : (s.slot i).exec.inFlight = none) (h10 : (s.slot i).exec.withheld = false) :
    (s.enterResetRelease i).FitsAt idle killed i := by
  let f : Slot → Slot := fun p => p.releaseReset.enterPhase .linkWait (some (units p.seq.sample.linkLimit))
  have hslot : (s.modSlot i f).slot i = f (s.slot i) := by simp
  have hst : (s.slot i).releaseReset.Attempting := ha.congr
  have hat : ((s.slot i).releaseReset.enterPhase .linkWait (some (units (s.slot i).seq.sample.linkLimit))).Attempting :=
    hst.congr
  unfold State.enterResetRelease
  dsimp only
  split
  · exact (h.modSlot f).enterSettle (hu.modSlot i f) hk (by rw [hslot]; exact hat)
  · refine (h.modSlot f).done (hu.modSlot i f) ?_ ?_ ?_
    · rw [hslot, hk]
      exact hst.enterPhase (by simpa using h9) (by simpa using h10) (.inr (.inl rfl)) _
    · simp [f, grantPhase]
    · simp [f]

/-! ### DRAINING -/

/-- The drain of a DRAINING slot ends, in FENCED, in the ladder, or with a failed admission. -/
theorem State.FitsBut.endDraining (h : s.FitsBut idle killed i) (hu : s.Unrailed i) (hd : (s.slot i).Draining) :
    (s.endDraining i).FitsAt idle killed i := by
  let f : Slot → Slot := fun p => { p.fenceAll with seq := { p.fenceAll.seq with drainTimer := none } }
  have hlive : (f (s.slot i)).liveCount = 0 := Slot.fenceAll_liveCount _
  have hc : (f (s.slot i)).Contained := ⟨hd.seated.congr rfl rfl (.inl rfl) rfl, hlive, hd.awaits⟩
  have hh : (f (s.slot i)).Halted := ⟨hd.phase, rfl, hd.probationTimer, hd.inFlight, hd.withheld⟩
  have hp : (f (s.slot i)).Pending := hd.pending.congr rfl rfl rfl rfl
  have hslot : (s.modSlot i f).slot i = f (s.slot i) := by simp
  unfold State.endDraining
  dsimp only
  split
  · exact (h.modSlot f).failAdmission (hslot ▸ hc)
  · let g : Slot → Slot := fun p => p.setState .fenced
    have hslot' : ((s.modSlot i f).modSlot i g).slot i = g (f (s.slot i)) := by simp
    have hb := (h.modSlot f).modSlot g
    have hub := (hu.modSlot i f).modSlot i g
    split
    · next hauto =>
      have hkill : s.kill = false := by
        unfold State.automatic at hauto
        split at hauto
        · simp at hauto
        · simp at hauto; exact hauto.2
        · simp at hauto
        · simp at hauto
      have hk : killed i = false := by
        cases hki : killed i
        · rfl
        · simp [h.kill hki] at hkill
      exact hb.startRecovery hub hk (hslot' ▸ hc.congr rfl rfl rfl rfl (.inl rfl) rfl)
        (hslot' ▸ hp.congr rfl rfl rfl rfl) (hslot' ▸ hh.congr rfl rfl rfl rfl rfl)
    · have hlast : (((s.modSlot i f).modSlot i g).modSlot i Slot.clearHeld).slot i = (g (f (s.slot i))).clearHeld := by
        simp
      refine (hb.modSlot _).done (hub.modSlot i _) ?_ ?_ ?_
      · rw [hlast]
        exact .of_fenced (hc.congr rfl rfl rfl rfl (.inl rfl) rfl) (hh.congr rfl rfl rfl rfl rfl)
          (hp.congr rfl rfl rfl rfl) rfl rfl rfl
      · rw [hlast]; exact (grantPhase_none hd.phase).1
      · rw [hlast]; exact (grantPhase_none hd.phase).2

theorem State.FitsBut.drainIfIdle (h : s.FitsBut idle killed i) (hf : (s.slot i).Fits true (killed i)) (hg : s.GrantOk i) :
    (s.drainIfIdle i).FitsAt idle killed i := by
  unfold State.drainIfIdle
  split
  · next hd =>
    have hdr := hf.draining hd.1
    exact h.endDraining (hg.unrailed (grantPhase_none hdr.phase).1 (grantPhase_none hdr.phase).2) hdr
  · next hd =>
    refine ⟨h, { hf with drains := fun _ hs => ?_ }, hg⟩
    exact Nat.pos_of_ne_zero fun hc => hd ⟨hs, hc⟩

/-- The posted entries at the head of the Send Queue are gone when the gates have closed. -/
theorem Slot.closeGates_awaits (p : Slot) : p.closeGates.HeadAwaits := Slot.dropPosted_headAwaits _

/-- Counting a dropped card request in a PENDING record leaves the record PENDING with its counts. -/
theorem Slot.closeGates_record (p : Slot) : p.closeGates.current.outcome = p.current.outcome ∧
    p.closeGates.current.attempts = p.current.attempts ∧ p.closeGates.current.kind = p.current.kind := by
  have hstage : ∀ q : Slot, (q.countDroppedCardRequests 1).current.outcome = q.current.outcome ∧
      (q.countDroppedCardRequests 1).current.attempts = q.current.attempts ∧
      (q.countDroppedCardRequests 1).current.kind = q.current.kind := fun q =>
    ⟨Slot.notePending_field _ Incident.outcome rfl, Slot.notePending_field _ Incident.attempts rfl,
      Slot.notePending_field _ Incident.kind rfl⟩
  show p.closeStage.current.outcome = _ ∧ p.closeStage.current.attempts = _ ∧ p.closeStage.current.kind = _
  unfold Slot.closeStage
  split
  · split
    · exact ⟨rfl, rfl, rfl⟩
    · exact hstage _
  · exact ⟨rfl, rfl, rfl⟩

/-- DRAINING is entered by a serving slot whose record is PENDING. -/
theorem State.FitsBut.enterDraining (h : s.FitsBut idle killed i) (hu : s.Unrailed i) (hs : (s.slot i).Seated)
    (hp : (s.slot i).Pending) (hph : (s.slot i).seq.phase = none) (h9 : (s.slot i).exec.inFlight = none)
    (h10 : (s.slot i).exec.withheld = false) : (s.enterDraining i).FitsAt idle killed i := by
  let f : Slot → Slot := fun p =>
    let q := p.closeGates.setState .draining
    { q with seq := { q.seq with probationTimer := none, drainTimer := some (units q.seq.plan.drain) } }
  have hslot : (s.modSlot i f).slot i = f (s.slot i) := by simp
  obtain ⟨ho, ha, -⟩ := (s.slot i).closeGates_record
  have hd : (f (s.slot i)).Draining :=
    ⟨hs.congr (by simp [f]) (by simp [f]) (by simp [f]) (by simp [f]),
      hp.congr ho ha (by simp [f]) (by simp [f]), Slot.closeGates_awaits _, rfl, rfl, by simpa [f] using hph, rfl, rfl, by simpa [f] using h9,
      by simpa [f] using h10⟩
  unfold State.enterDraining
  dsimp only
  split
  · exact (h.modSlot f).endDraining (hu.modSlot i f) (hslot ▸ hd)
  · next hne =>
    refine (h.modSlot f).done (hu.modSlot i f) ?_ ?_ ?_
    · rw [hslot]
      refine hd.fits fun _ => Nat.pos_of_ne_zero fun hc => hne (.inl ?_)
      exact hslot ▸ hc
    · rw [hslot]; exact (grantPhase_none hd.phase).1
    · rw [hslot]; exact (grantPhase_none hd.phase).2

/-! ### Trips -/

/-- A trip in PROBATION leaves the record PENDING, its counts following a failed attempt within the sample (R78). -/
theorem Slot.Fits.continueIncident {p : Slot} {d k : Bool} (h : p.Fits d k) (hs : p.seq.state = .probation)
    (c : TripCause) (b : Bool) (view : TripView) : (p.continueIncident c b view).Pending := by
  have hp := h.pending (by simp [hs, SlotState.inSequence])
  have hq : (p.notePending fun r =>
      { r with further := r.further.add c ||| furtherOf b, tripState := .probation, view := view }).Pending :=
    hp.congr (Slot.notePending_field _ Incident.outcome rfl) (Slot.notePending_field _ Incident.attempts rfl)
  unfold Slot.continueIncident
  cases hk : p.current.kind with
  | fault => exact hq.countAttempt fun l hl => by simpa using h.within.2 l (by simpa using hl) hk
  | admission => exact hq

@[simp] theorem Slot.countAttempt_phase (p : Slot) : p.countAttempt.seq.phase = p.seq.phase := by
  rw [Slot.countAttempt_control]

@[simp] theorem Slot.continueIncident_phase (p : Slot) (c : TripCause) (b : Bool) (view : TripView) :
    (p.continueIncident c b view).seq.phase = p.seq.phase := by
  unfold Slot.continueIncident
  dsimp only
  split <;> simp

/-- A trip of a serving slot, and no trip of another. -/
theorem State.FitsBut.trip (h : s.FitsBut idle killed i) (hf : (s.slot i).Fits false false) (hg : s.GrantOk i)
    (hs : (s.slot i).serving = true) (c : TripCause) (b : Bool) (view : TripView) :
    (s.trip i c b view).FitsAt idle killed i := by
  obtain ⟨hph, -, h9, h10⟩ := hf.serving_halted hs
  have hu := hg.unrailed (grantPhase_none hph).1 (grantPhase_none hph).2
  have hseat : (s.slot i).Seated := hf.seated fun he => by simp [Slot.serving, he, SlotState.serving] at hs
  unfold State.trip
  rcases Slot.serving_iff.1 hs with hst | hst
  · simp only [hst]
    let u := (s.openIncident i .fault (.trip c) (furtherOf b) .online view).modSlot i Slot.countTrip
    obtain ⟨ho, ha⟩ := hf.closed (by simp [hst]) (by simp [hst, SlotState.inSequence])
    have hub : u.FitsBut idle killed i := (h.openIncident ..).modSlot _
    have huu : u.Unrailed i := (hu.openIncident ..).modSlot i _
    have hslot : u.slot i = ((s.openIncident i .fault (.trip c) (furtherOf b) .online view).slot i).countTrip := by
      simp [u]
    obtain ⟨r, hr1, hr2, -, hopen⟩ := s.slot_openIncident_same i .fault (.trip c) (furtherOf b) .online view
    rw [hopen] at hslot
    have hseat' : (u.slot i).Seated := by rw [hslot]; exact ⟨hseat.present, hseat.power, ho⟩
    have hpend : (u.slot i).Pending := by
      rw [hslot]
      exact ⟨hr1, hr2.trans ha.symm, hf.within.1⟩
    exact hub.enterDraining huu hseat' hpend (by rw [hslot]; exact hph) (by rw [hslot]; exact h9) (by rw [hslot]; exact h10)
  · simp only [hst]
    let f : Slot → Slot := fun p => (p.continueIncident c b view).countTrip
    have hslot : (s.modSlot i f).slot i = f (s.slot i) := by simp
    have hpend := hf.continueIncident hst c b view
    refine (h.modSlot f).enterDraining (hu.modSlot i f) ?_ ?_ ?_ ?_ ?_
    · rw [hslot]; exact hseat.congr (by simp [f]) (by simp [f]) (by simp [f]) (by simp [f])
    · rw [hslot]; exact hpend.congr (by simp [f]) (by simp [f]) (by simp [f]) (by simp [f])
    · rw [hslot]; simpa [f] using hph
    · rw [hslot]; simpa [f] using h9
    · rw [hslot]; simpa [f] using h10

/-! ### Aborts, admissions, recoveries by hand, releases, removals -/

/-- The abort of a sequence: FENCED, the record PENDING. -/
theorem Slot.Fits.abortSequence {p : Slot} {d d' k : Bool} (h : p.Fits d false) (hs : p.seq.state.inSequence = true) :
    p.abortSequence.Fits d' k ∧ p.abortSequence.seq.phase = none := by
  have hp := h.pending (.inr hs)
  have hne : p.seq.state ≠ .empty := fun he => by simp [he, SlotState.inSequence] at hs
  have hend : ∀ q : Slot, q.Contained → q.Pending →
      ((q.stopSequence.setState .fenced).clearHeld).Fits d' k ∧
        ((q.stopSequence.setState .fenced).clearHeld).seq.phase = none := fun q hc hq =>
    ⟨.of_fenced hc.congr (Slot.stopSequence_halted q).congr hq.congr rfl rfl rfl, (Slot.stopSequence_halted q).phase⟩
  unfold Slot.abortSequence
  dsimp only
  split
  · next hst =>
    have hc : p.fenceAll.Contained := ⟨(h.seated hne).congr, p.fenceAll_liveCount, (h.draining hst).awaits⟩
    split
    · exact hend _ hc hp.congr
    · exact hend _ hc.congr hp.congr
  · obtain ⟨ho, ha, -⟩ := p.closeGates_record
    have hc : p.closeGates.fenceAll.Contained :=
      ⟨(h.seated hne).congr, Slot.fenceAll_liveCount _, Slot.closeGates_awaits p⟩
    exact hend _ hc.congr (hp.congr (by simpa using ho) (by simpa using ha))
  · next hnd hnp =>
    have hst : p.seq.state = .recovering := by
      cases hst : p.seq.state <;> simp [hst, SlotState.inSequence] at hs
      · exact absurd hst hnd
      · rfl
      · exact absurd hst hnp
    exact hend _ (h.attempting hst).contained.congr hp.congr

theorem State.FitsBut.abort (h : s.FitsBut idle killed i) (hf : (s.slot i).Fits true false)
    (hs : (s.slot i).seq.state.inSequence = true) : (s.abort i).FitsAt idle killed i := by
  obtain ⟨hb, hu, hslot⟩ := (h.modSlot Slot.abortSequence).releaseRail
  rw [State.slot_modSlot_same] at hslot
  obtain ⟨hfit, hph⟩ := hf.abortSequence (d' := false) (k := killed i) hs
  exact hb.done hu (hslot ▸ hfit) (hslot ▸ (grantPhase_none hph).1) (hslot ▸ (grantPhase_none hph).2)

/-- The bring-up of an admission begins. -/
theorem State.FitsBut.beginAdmission (h : s.FitsBut idle killed i) (hu : s.Unrailed i) (hk : killed i = false)
    (hc : (s.slot i).Contained) (hp : (s.slot i).Pending) (hh : (s.slot i).Halted)
    (hkind : (s.slot i).current.kind = .admission) : (s.beginAdmission i).FitsAt idle killed i :=
  h.beginAttempt hu hk hc hp hh (fun hf => absurd (hkind.symm.trans hf) (by simp)) _

theorem State.FitsBut.admitSlot (h : s.FitsBut idle killed i) (hf : (s.slot i).Fits true false) (hg : s.GrantOk i)
    (hk : killed i = false) (hs : (s.slot i).seq.state = .offline) : (s.admitSlot i).FitsAt idle killed i := by
  obtain ⟨hh, -, -⟩ := hf.halted (by simp [hs, SlotState.inSequence])
  obtain ⟨ho, ha⟩ := hf.closed (by simp [hs]) (by simp [hs, SlotState.inSequence])
  have hc := hf.contained (by simp [hs]) (by simp [Slot.serving, hs, SlotState.serving]) (by simp [hs])
  have hu := hg.unrailed (grantPhase_none hh.phase).1 (grantPhase_none hh.phase).2
  let u := (s.modSlot i Slot.takeSample).openIncident i .admission .admission 0 .offline (s.slot i).admissionView
  obtain ⟨r, hr1, hr2, hr3, hslot⟩ := (s.modSlot i Slot.takeSample).slot_openIncident_same i .admission .admission 0
    .offline (s.slot i).admissionView
  rw [State.slot_modSlot_same] at hslot
  replace hslot : u.slot i = _ := hslot
  have hzero : (s.slot i).takeSample.seq.attempts = PerLevel.all 0 := by
    rw [Slot.takeSample_seq, ha]
    simp [PerLevel.lowerTo, PerLevel.all]
  refine State.FitsBut.beginAdmission (s := u) ((h.modSlot _).openIncident ..) ((hu.modSlot i _).openIncident ..) hk ?_ ?_ ?_ ?_
  · rw [hslot]
    have hc' : (s.slot i).takeSample.Contained := hc.congr
    exact ⟨⟨hc'.seated.present, hc'.seated.power, by simpa using ho⟩, hc'.none_live, hc'.awaits⟩
  · rw [hslot]
    refine ⟨hr1, hr2.trans hzero.symm, fun l => ?_⟩
    show (s.slot i).takeSample.seq.attempts.get l ≤ _
    rw [hzero]
    cases l <;> exact Nat.zero_le _
  · rw [hslot]
    exact hh.takeSample.congr rfl rfl rfl rfl rfl
  · rw [hslot]
    exact hr3

theorem State.FitsBut.recoverSlot (h : s.FitsBut idle killed i) (hf : (s.slot i).Fits true false) (hg : s.GrantOk i)
    (hk : killed i = false) (hs : (s.slot i).seq.state = .fenced) : (s.recoverSlot i).FitsAt idle killed i := by
  obtain ⟨hh, -, -⟩ := hf.halted (by simp [hs, SlotState.inSequence])
  have hp := hf.pending (.inl hs)
  have hc := hf.contained (by simp [hs]) (by simp [Slot.serving, hs, SlotState.serving]) (by simp [hs])
  have hu := hg.unrailed (grantPhase_none hh.phase).1 (grantPhase_none hh.phase).2
  have hslot : (s.modSlot i Slot.takeSample).slot i = (s.slot i).takeSample := by simp
  unfold State.recoverSlot
  cases hkind : (s.slot i).current.kind with
  | fault => exact h.startRecovery hu hk hc hp hh
  | admission =>
    exact (h.modSlot _).beginAdmission (hu.modSlot i _) hk (hslot ▸ hc.congr) (hslot ▸ .takeSample hp.outcome)
      (hslot ▸ hh.takeSample) (by rw [hslot]; simpa using hkind)

theorem State.FitsBut.releaseSlot (h : s.FitsBut idle killed i) (hf : (s.slot i).Fits true false) (hg : s.GrantOk i)
    (hs : (s.slot i).seq.state = .fenced ∨ (s.slot i).seq.state = .retired) : (s.releaseSlot i).FitsAt idle killed i := by
  have hin : (s.slot i).seq.state.inSequence = false := by obtain hs | hs := hs <;> simp [hs, SlotState.inSequence]
  obtain ⟨hh, -, -⟩ := hf.halted hin
  have hc : (s.slot i).Contained := by
    obtain hs | hs := hs <;>
      exact hf.contained (by simp [hs]) (by simp [Slot.serving, hs, SlotState.serving]) (by simp [hs])
  have hu := hg.unrailed (grantPhase_none hh.phase).1 (grantPhase_none hh.phase).2
  let f : Slot → Slot := fun p => ((p.setState .offline).clearHeld).assertReset
  have hq := State.slot_closeIncident_same (s.modSlot i f) i .aborted
  rw [State.slot_modSlot_same] at hq
  have hhf : (f (s.slot i)).Halted := hh.congr (by simp [f]) (by simp [f]) (by simp [f]) (by simp [f]) (by simp [f])
  have hcf : (f (s.slot i)).Contained := hc.congr (by simp [f, Slot.liveCount]) (by simp [f]) (by simp [f]) (by simp [f])
    (by simp [f]) (by simp [f])
  refine ((h.modSlot f).closeIncident _).done ((hu.modSlot i f).closeIncident _) ?_ ?_ ?_
  · rw [hq]
    exact .of_rest (hcf.closedAs _ _) (hhf.closedAs _ _) (.inl rfl) rfl rfl (Slot.closedAs_outcome _ _ (by simp)) rfl
  · rw [hq]; exact (grantPhase_none (hhf.closedAs _ _).phase).1
  · rw [hq]; exact (grantPhase_none (hhf.closedAs _ _).phase).2

theorem State.FitsBut.retireCommand (h : s.FitsBut idle killed i) (hf : (s.slot i).Fits true false)
    (hs : (s.slot i).seq.state = .fenced) (a : RetireAction) : (s.retire i a).FitsAt idle killed i :=
  h.retire (hf.contained (by simp [hs]) (by simp [Slot.serving, hs, SlotState.serving]) (by simp [hs])) a

/-! ### Removal -/

/-- What a removal leaves of a slot before its incident is settled. -/
theorem Slot.Fits.remove {p : Slot} {d k : Bool} (h : p.Fits d k) :
    p.remove.lines.present = false ∧ p.remove.lines.slotReset = true ∧ p.remove.lines.powerEnable = false ∧
      p.remove.liveCount = 0 ∧ p.remove.HeadAwaits ∧ p.remove.Halted ∧ p.remove.seq.state = .empty ∧
      p.remove.seq.level = none ∧ p.remove.seq.held = false ∧ p.remove.previous = p.previous ∧
      p.remove.current.outcome = p.current.outcome := by
  have hend : ∀ g : Slot, g.HeadAwaits →
      let q := ((((((g.stopSequence.setState .empty).clearHeld).ortRemoval).assertReset).setPower false).setPresent false)
      q.lines.present = false ∧ q.lines.slotReset = true ∧ q.lines.powerEnable = false ∧ q.liveCount = 0 ∧
        q.HeadAwaits ∧ q.Halted ∧ q.seq.state = .empty ∧ q.seq.level = none ∧ q.seq.held = false ∧
        q.previous = g.previous ∧ q.current = g.current := by
    intro g hg q
    refine ⟨rfl, by simp [q, Slot.setPresent], by simp [q, Slot.setPresent], ?_, ?_,
      ⟨?_, ?_, ?_, ?_, ?_⟩, ?_, ?_, ?_, ?_, ?_⟩
    · exact (tombstoneClear_liveCount _).trans (Slot.fenceAll_liveCount _)
    · have hq : q.traffic.sendQueue = g.traffic.sendQueue := by
        show g.stopSequence.traffic.sendQueue = _
        simp
      simpa only [Slot.HeadAwaits, hq] using hg
    all_goals simp [q, Slot.setPresent]
  unfold Slot.remove
  dsimp only
  by_cases hs : p.serving = true
  · rw [if_pos hs]
    obtain ⟨h1, h2, h3, h4, h5, h6, h7, h8, h9, h10, h11⟩ := hend p.closeGates p.closeGates_awaits
    exact ⟨h1, h2, h3, h4, h5, h6, h7, h8, h9, by simpa using h10, by rw [h11]; exact p.closeGates_record.1⟩
  · rw [if_neg hs]
    obtain ⟨h1, h2, h3, h4, h5, h6, h7, h8, h9, h10, h11⟩ := hend p (h.awaits (by simpa using hs))
    exact ⟨h1, h2, h3, h4, h5, h6, h7, h8, h9, h10, by rw [h11]⟩

theorem Slot.closedAs_empty {p : Slot} {d k : Bool} (h1 : p.lines.present = false) (h2 : p.lines.slotReset = true)
    (h3 : p.lines.powerEnable = false) (h4 : p.liveCount = 0) (h5 : p.HeadAwaits) (h6 : p.Halted)
    (h7 : p.seq.state = .empty) (h8 : p.seq.level = none) (h9 : p.seq.held = false) (h10 : p.previous.outcome ≠ .pending)
    {oc : IncidentOutcome} (ho : oc ≠ .pending) (time : Ticks) : (p.closedAs oc time).Fits d k :=
  .of_empty h1 h2 h3 h10 h4 h5 (h6.closedAs _ _) h7 h8 h9 (Slot.closedAs_outcome _ _ ho) rfl

theorem State.FitsBut.removal (h : s.FitsBut idle killed i) (hf : (s.slot i).Fits true false) :
    (((s.modSlot i Slot.remove).releaseRail i).removalIncident i (s.slot i)).FitsAt idle killed i := by
  obtain ⟨hb, hu, hslot⟩ := (h.modSlot Slot.remove).releaseRail
  rw [State.slot_modSlot_same] at hslot
  obtain ⟨h1, h2, h3, h4, h5, h6, h7, h8, h9, h10, h11⟩ := hf.remove
  let u := (s.modSlot i Slot.remove).releaseRail i
  unfold State.removalIncident
  split
  · next hst =>
    let v := u.openIncident i .fault .removal 0 .online ((s.slot i).tripView u.time.now)
    obtain ⟨r, -, -, -, hv⟩ := u.slot_openIncident_same i .fault .removal 0 .online ((s.slot i).tripView u.time.now)
    replace hv : v.slot i = _ := hv
    obtain ⟨ho, -⟩ := hf.closed (by simp [hst]) (by simp [hst, SlotState.inSequence])
    have hq := State.slot_closeIncident_same v i .removed
    rw [hv, show u.slot i = _ from hslot] at hq
    refine ((hb.openIncident ..).closeIncident _).done ((hu.openIncident ..).closeIncident _) ?_ ?_ ?_
    · rw [hq]
      exact Slot.closedAs_empty (p := { (s.slot i).remove with previous := (s.slot i).remove.current, current := r })
        h1 h2 h3 h4 h5 (h6.congr rfl rfl rfl rfl rfl) h7 h8 h9 (h11.trans_ne ho) (by simp) _
    · rw [hq]; exact (grantPhase_none h6.phase).1
    · rw [hq]; exact (grantPhase_none h6.phase).2
  · have hq := State.slot_closeIncident_same u i .removed
    rw [show u.slot i = _ from hslot] at hq
    refine (hb.closeIncident _).done (hu.closeIncident _) ?_ ?_ ?_
    · rw [hq]
      exact Slot.closedAs_empty h1 h2 h3 h4 h5 h6 h7 h8 h9 (by rw [h10]; exact hf.recorded.2.1) (by simp) _
    · rw [hq]; exact (grantPhase_none h6.phase).1
    · rw [hq]; exact (grantPhase_none h6.phase).2

end Sys2Proof.Machine

/-! SUPPORT. A sound state by parts: `State.Steady` is everything of `State.Sound` but the mailbox, which is BUSY in the
middle of the event of every command; `State.Still` is an event that keeps what the host is owed. -/

namespace Sys2Proof.Machine

/-! ### Slots whose control is the same -/

/-- What a slot's state asks of sequencer, lines, executor and records is the same in `p` and `q`. -/
structure Slot.SameControl (p q : Slot) : Prop where
  state : q.seq.state = p.seq.state := by simp
  phase : q.seq.phase = p.seq.phase := by simp
  level : q.seq.level = p.seq.level := by simp
  held : q.seq.held = p.seq.held := by simp
  attempts : q.seq.attempts = p.seq.attempts := by simp
  sample : q.seq.sample = p.seq.sample := by simp
  drainTimer : q.seq.drainTimer.isSome = p.seq.drainTimer.isSome := by simp
  probationTimer : q.seq.probationTimer.isSome = p.seq.probationTimer.isSome := by simp
  slotReset : q.lines.slotReset = p.lines.slotReset := by simp
  powerEnable : q.lines.powerEnable = p.lines.powerEnable := by simp
  powerControl : q.lines.powerControl = p.lines.powerControl := by simp
  present : q.lines.present = p.lines.present := by simp
  inFlight : q.exec.inFlight.isSome = p.exec.inFlight.isSome := by simp
  withheld : q.exec.withheld = p.exec.withheld := by simp
  outcome : q.current.outcome = p.current.outcome := by simp
  counted : q.current.attempts = p.current.attempts := by simp
  kind : q.current.kind = p.current.kind := by simp
  previous : q.previous.outcome = p.previous.outcome := by simp

section

variable {p q r : Slot} {d k : Bool}

theorem Slot.SameControl.refl (p : Slot) : p.SameControl p :=
  ⟨rfl, rfl, rfl, rfl, rfl, rfl, rfl, rfl, rfl, rfl, rfl, rfl, rfl, rfl, rfl, rfl, rfl, rfl⟩

theorem Slot.SameControl.trans (h : p.SameControl q) (g : q.SameControl r) : p.SameControl r :=
  ⟨g.state.trans h.state, g.phase.trans h.phase, g.level.trans h.level, g.held.trans h.held,
    g.attempts.trans h.attempts, g.sample.trans h.sample, g.drainTimer.trans h.drainTimer,
    g.probationTimer.trans h.probationTimer, g.slotReset.trans h.slotReset, g.powerEnable.trans h.powerEnable,
    g.powerControl.trans h.powerControl, g.present.trans h.present, g.inFlight.trans h.inFlight,
    g.withheld.trans h.withheld, g.outcome.trans h.outcome, g.counted.trans h.counted, g.kind.trans h.kind,
    g.previous.trans h.previous⟩

theorem Slot.SameControl.serving (h : p.SameControl q) : q.serving = p.serving := by
  rw [Slot.serving, h.state]; rfl

/-- Where the control is the same, a slot fits its state when its queues and its LIVE entries do. -/
theorem Slot.Fits.of_same (h : p.Fits d k) (hc : p.SameControl q)
    (hl : 0 < q.liveCount → q.serving = true ∨ q.seq.state = .draining)
    (hd : d = false → q.seq.state = .draining → 0 < q.liveCount) (ha : q.NoPostedHead) : q.Fits d k := by
  obtain ⟨h1, h2, h3, h4, -, -, -, h8⟩ := h
  obtain ⟨c1, c2, c3, c4, c5, c6, c7, c8, c9, c10, c11, c12, c13, c14, c15, c16, c17, c18⟩ := id hc
  refine ⟨?_, ?_, ?_, ?_, hl, hd, ha, ?_⟩
  · simpa only [Slot.Shaped, c1, c2, c3, c4, c7, c8, c13, c14] using h1
  · simpa only [Slot.Lined, c1, c2, c9, c10, c11, c12] using h2
  · simpa only [Slot.Recorded, c1, c5, c15, c16, c18] using h3
  · simpa only [Slot.WithinSample, c3, c5, c6, c17] using h4
  · simpa only [hc.serving, c1] using h8

/-- An operation that keeps the control, the Send Queue and the ORT. -/
theorem Slot.Fits.of_queues (h : p.Fits d k) (hc : p.SameControl q) (hs : q.traffic.sendQueue = p.traffic.sendQueue)
    (ho : q.traffic.ort = p.traffic.ort) : q.Fits d k := by
  have hlive : q.liveCount = p.liveCount := by rw [Slot.liveCount, ho]; rfl
  refine h.of_same hc ?_ ?_ ?_
  · rw [hlive, hc.serving, hc.state]; exact h.live
  · rw [hlive, hc.state]; exact h.drains
  · simpa only [Slot.NoPostedHead, hc.serving, hs] using h.awaits

end

/-! ### Operations that keep the control -/

section

variable (p : Slot)

theorem Slot.notePending_control {f : Incident → Incident} (h1 : (f p.current).outcome = p.current.outcome := by rfl)
    (h2 : (f p.current).attempts = p.current.attempts := by rfl) (h3 : (f p.current).kind = p.current.kind := by rfl) :
    p.SameControl (p.notePending f) where
  outcome := p.notePending_field _ h1
  counted := p.notePending_field _ h2
  kind := p.notePending_field _ h3

/-- Control that is the same by computation. -/
theorem Slot.SameControl.of_eq {p q : Slot}
    (h1 : q.seq.state = p.seq.state := by rfl)
    (h2 : q.seq.phase = p.seq.phase := by rfl)
    (h3 : q.seq.level = p.seq.level := by rfl)
    (h4 : q.seq.held = p.seq.held := by rfl)
    (h5 : q.seq.attempts = p.seq.attempts := by rfl)
    (h6 : q.seq.sample = p.seq.sample := by rfl)
    (h7 : q.seq.drainTimer.isSome = p.seq.drainTimer.isSome := by rfl)
    (h8 : q.seq.probationTimer.isSome = p.seq.probationTimer.isSome := by rfl)
    (h9 : q.lines.slotReset = p.lines.slotReset := by rfl)
    (h10 : q.lines.powerEnable = p.lines.powerEnable := by rfl)
    (h11 : q.lines.powerControl = p.lines.powerControl := by rfl)
    (h12 : q.lines.present = p.lines.present := by rfl)
    (h13 : q.exec.inFlight.isSome = p.exec.inFlight.isSome := by rfl)
    (h14 : q.exec.withheld = p.exec.withheld := by rfl)
    (h15 : q.current.outcome = p.current.outcome := by rfl)
    (h16 : q.current.attempts = p.current.attempts := by rfl)
    (h17 : q.current.kind = p.current.kind := by rfl)
    (h18 : q.previous.outcome = p.previous.outcome := by rfl) : p.SameControl q :=
  ⟨h1, h2, h3, h4, h5, h6, h7, h8, h9, h10, h11, h12, h13, h14, h15, h16, h17, h18⟩

/-- A change of what no state asks about. -/
theorem Slot.SameControl.of_fields {p q : Slot} (hs : q.seq = p.seq := by rfl) (hl : q.lines = p.lines := by rfl)
    (hx : q.exec = p.exec := by rfl) (hc : q.current = p.current := by rfl) (hp : q.previous = p.previous := by rfl) :
    p.SameControl q := by
  constructor <;> simp only [hs, hl, hx, hc, hp]

theorem Slot.addFurther_control (c : TripCause) : p.SameControl (p.addFurther c) := p.notePending_control

theorem Slot.countDroppedWrites_control (n : Nat) : p.SameControl (p.countDroppedWrites n) := .of_fields

theorem Slot.countDroppedCardRequests_control (n : Nat) : p.SameControl (p.countDroppedCardRequests n) :=
  .trans (.of_fields) (Slot.notePending_control _)

theorem Slot.countSynthetic_control : p.SameControl p.countSynthetic := .trans .of_fields (Slot.notePending_control _)
theorem Slot.countStale_control : p.SameControl p.countStale := .trans .of_fields (Slot.notePending_control _)
theorem Slot.countStray_control : p.SameControl p.countStray := .of_fields
theorem Slot.countDuplicate_control : p.SameControl p.countDuplicate := .of_fields
theorem Slot.reloadStall_control : p.SameControl p.reloadStall := .of_fields
theorem Slot.clearHealth_control : p.SameControl p.clearHealth := .of_fields
theorem Slot.dropPosted_control : p.SameControl p.dropPosted := .of_fields
theorem Slot.depart_control (tx : Transaction) : p.SameControl (p.depart tx) := .of_fields

theorem Slot.admitEntry_control (now : Ticks) (tx : Transaction) : p.SameControl (p.admitEntry now tx) := by
  unfold Slot.admitEntry
  split
  · exact .of_fields
  · exact .refl p

theorem Slot.reconsider_control (now : Ticks) (b : Bool) : p.SameControl (p.reconsider now b) := by
  unfold Slot.reconsider
  split
  · split
    · exact p.admitEntry_control _ _
    · exact .refl p
  · exact .refl p

end

/-! ### Steady states -/

/-- The counters and settings of the part itself in range. -/
def State.PartInRange (s : State) : Prop :=
  s.counters.InRange ∧ 9 ≤ s.time.prescale ∧ s.time.prescale ≤ 65535 ∧ 16 ≤ s.health.visit ∧ s.health.visit ≤ 4095 ∧
    s.health.visitTimer ≤ 4095

/-- Everything of a sound state but what ties the mailbox to a RESET PART. -/
structure State.Steady (s : State) : Prop where
  data : ∀ i, (s.slot i).DataOk
  fits : ∀ i, (s.slot i).Fits false s.kill
  grants : ∀ i, s.GrantOk i
  rails : ∀ r, s.RailOk r
  saq : s.saq.length ≤ 64
  owners : ∀ i n, (s.saq.countP fun it => it.owner == some { slot := i, entry := n }) = (s.slot i).answeringAt n
  head : s.HeadOk
  presents : s.Presents
  ranges : s.PartInRange

theorem State.ownersAnswering_iff (s : State) : s.OwnersAnswering ↔
    ∀ i n, (s.saq.countP fun it => it.owner == some { slot := i, entry := n }) = (s.slot i).answeringAt n := by
  simp only [State.OwnersAnswering, State.itemsOf, State.answering, Slot.answeringAt, List.countP_eq_length_filter]

theorem State.Sound.steady {s : State} (h : s.Sound) : s.Steady where
  data i := by
    obtain ⟨hb, hd, -, -, -, -, -, -, -, hw, -, -, -, hr⟩ := h
    exact ⟨hb.2 i, hd i, hr.1 i, fun l => ((hw i).1 l).trans (((hr.1 i).2.2.2.2.2.2.2.2.2.2.2.2.1).1.1 l).2⟩
  fits i :=
    { shaped := h.sequenced.1 i, lined := h.lined i, recorded := h.recorded i, within := h.sample i,
      live := (h.live i).1, drains := fun _ => (h.live i).2, awaits := h.noPosted i, out := fun hk => h.killed hk i }
  grants := h.sequenced.2.2
  rails := h.sequenced.2.1
  saq := h.bounded.1
  owners := s.ownersAnswering_iff.1 h.owners
  head := h.head
  presents := h.presents
  ranges := h.inRange.2

theorem State.Steady.sound {s : State} (h : s.Steady) (hb : s.BusyFits) : s.Sound where
  bounded := ⟨h.saq, fun i => (h.data i).bounded⟩
  distinct i := (h.data i).distinct
  owners := s.ownersAnswering_iff.2 h.owners
  head := h.head
  noPosted i := (h.fits i).awaits
  sequenced := ⟨fun i => (h.fits i).shaped, h.rails, h.grants⟩
  lined i := (h.fits i).lined
  killed hk i := (h.fits i).out hk
  live i := ⟨(h.fits i).live, (h.fits i).drains rfl⟩
  sample i := (h.fits i).within
  recorded i := (h.fits i).recorded
  presents := h.presents
  busy := hb
  inRange := ⟨fun i => (h.data i).range, h.ranges⟩

/-! ### Still events -/

/-- From `p` to `q` nothing goes out of range, nothing owed to the host is lost or gained, and no entry enters or leaves
ANSWERING. -/
structure Slot.Mild (p q : Slot) : Prop where
  data : p.DataOk → q.DataOk
  debt : q.debt = p.debt
  answering : ∀ n, q.answeringAt n = p.answeringAt n

theorem Slot.Calm.mild {p q : Slot} (h : p.Calm q) : p.Mild q := ⟨h.data, h.debt, h.answering⟩

theorem Slot.Mild.trans {p q r : Slot} (h : p.Mild q) (k : q.Mild r) : p.Mild r :=
  ⟨k.data ∘ h.data, k.debt.trans h.debt, fun n => (k.answering n).trans (h.answering n)⟩

/-- From `s` to `t` the part owes the host the same, answers included. -/
structure State.Still (s t : State) : Prop where
  slots : ∀ i, (s.slot i).Mild (t.slot i)
  head : t.head = s.head := by rfl
  saq : t.saq = s.saq := by rfl
  waitingAnswer : t.waitingAnswer = s.waitingAnswer := by rfl
  presents : s.Presents → t.Presents
  ranges : s.PartInRange → t.PartInRange

section

variable {s t u : State} {i : SlotId}

theorem State.Calm.still (h : s.Calm t) : s.Still t where
  slots i := (h.slots i).mild
  head := h.quiet.head
  saq := h.quiet.saq
  waitingAnswer := h.quiet.waitingAnswer
  presents := h.presents
  ranges hr := by simpa only [State.PartInRange, h.quiet.counters, h.quiet.time, h.quiet.health] using hr

theorem State.Still.trans (h : s.Still t) (k : t.Still u) : s.Still u where
  slots i := (h.slots i).trans (k.slots i)
  head := k.head.trans h.head
  saq := k.saq.trans h.saq
  waitingAnswer := k.waitingAnswer.trans h.waitingAnswer
  presents := k.presents ∘ h.presents
  ranges := k.ranges ∘ h.ranges

/-- A still event owes the host what it owed before. -/
theorem State.Still.debt (h : s.Still t) : t.debt = s.debt := by
  simp only [State.debt, h.head, h.saq, h.waitingAnswer, (h.slots _).debt]

/-- From `s` to `t` nothing goes out of range, and the ANSWERING entries stay those of the SAQ; what is owed may change. -/
structure State.Fair (s t : State) : Prop where
  slots : ∀ i, ((s.slot i).DataOk → (t.slot i).DataOk) ∧ ∀ n, (t.slot i).answeringAt n = (s.slot i).answeringAt n
  head : t.head = s.head := by rfl
  saq : t.saq = s.saq := by rfl
  presents : s.Presents → t.Presents
  ranges : s.PartInRange → t.PartInRange

theorem State.Still.fair (h : s.Still t) : s.Fair t :=
  ⟨fun i => ⟨(h.slots i).data, (h.slots i).answering⟩, h.head, h.saq, h.presents, h.ranges⟩

/-- A fair event leads from a steady state to a steady state where every slot fits its state. -/
theorem State.Steady.of_fair (h : s.Steady) (hs : s.Fair t) (hf : ∀ j, (t.slot j).Fits false t.kill)
    (hg : ∀ j, t.GrantOk j) (hr : ∀ r, t.RailOk r) : t.Steady where
  data i := (hs.slots i).1 (h.data i)
  fits := hf
  grants := hg
  rails := hr
  saq := by rw [hs.saq]; exact h.saq
  owners i n := by rw [hs.saq, (hs.slots i).2]; exact h.owners i n
  head := by simpa only [State.HeadOk, hs.head] using h.head
  presents := hs.presents h.presents
  ranges := hs.ranges h.ranges

theorem State.Steady.of_still (h : s.Steady) (hs : s.Still t) (hf : ∀ j, (t.slot j).Fits false t.kill)
    (hg : ∀ j, t.GrantOk j) (hr : ∀ r, t.RailOk r) : t.Steady := h.of_fair hs.fair hf hg hr

theorem State.Steady.of_fitsAt (h : s.Steady) (hs : s.Fair t)
    (hf : t.FitsAt (fun _ => false) (fun _ => t.kill) i) : t.Steady := by
  refine h.of_fair hs (fun j => ?_) (fun j => ?_) hf.but.rails
  · by_cases hj : j = i
    · exact hj ▸ hf.slot
    · exact hf.but.others j hj
  · by_cases hj : j = i
    · exact hj ▸ hf.grant
    · exact hf.but.grants j hj

theorem State.Steady.fitsBut (h : s.Steady) (i : SlotId) : s.FitsBut (fun _ => false) (fun _ => s.kill) i :=
  ⟨fun j _ => h.fits j, fun j _ => h.grants j, h.rails, id⟩

/-- A calm event that leaves every slot fitting, seen from one slot. -/
theorem State.Steady.of_calm (h : s.Steady) (hc : s.Calm t)
    (hf : t.FitsAt (fun _ => false) (fun _ => s.kill) i) : t.Steady :=
  h.of_fitsAt hc.still.fair (by rw [hc.quiet.kill]; exact hf)

/-- One slot changes within its state, and nothing of the rails. -/
theorem State.Steady.fits_of_same (h : s.Steady) (hk : t.kill = s.kill)
    (hs : ∀ j, j ≠ i → t.slot j = s.slot j) (hf : (t.slot i).Fits false s.kill) (j : SlotId) :
    (t.slot j).Fits false t.kill := by
  rw [hk]
  by_cases hj : j = i
  · exact hj ▸ hf
  · exact hs j hj ▸ h.fits j

theorem State.Steady.grants_of_same (h : s.Steady) (hr : ∀ r, t.rail r = s.rail r)
    (hph : ∀ j, (t.slot j).seq.phase = (s.slot j).seq.phase) (j : SlotId) : t.GrantOk j := by
  simpa only [State.GrantOk, hr, hph] using h.grants j

theorem State.Steady.rails_of_same (h : s.Steady) (hr : ∀ r, t.rail r = s.rail r) (r : RailId) : t.RailOk r := by
  simpa only [State.RailOk, hr] using h.rails r

/-- One slot changes mildly, within its state and phase. -/
theorem State.Steady.modSlot (h : s.Steady) {f : Slot → Slot} (hm : (s.slot i).Mild (f (s.slot i)))
    (hf : (f (s.slot i)).Fits false s.kill) (hph : (f (s.slot i)).seq.phase = (s.slot i).seq.phase) :
    (s.modSlot i f).Steady := by
  refine h.of_still ⟨fun j => ?_, rfl, rfl, rfl, id, id⟩ (h.fits_of_same (i := i) rfl
      (fun j hj => by simp [hj]) (by simpa using hf))
    (h.grants_of_same (fun _ => by simp) fun j => ?_) (h.rails_of_same fun _ => by simp)
  · rw [State.slot_modSlot]
    split
    · next hj => exact hj ▸ hm
    · exact ⟨id, rfl, fun _ => rfl⟩
  · rw [State.slot_modSlot]
    split
    · next hj => exact hj ▸ hph
    · rfl

/-! ### The mailbox and the reset in progress -/

/-- No slot in OFFLINE or EMPTY is in any other state. -/
theorem State.BusyFits.idle_of (h : s.BusyFits) (ho : (s.slot i).seq.state ≠ .offline) (he : (s.slot i).seq.state ≠ .empty) :
    s.resetScope = none := by
  cases hr : s.resetScope with
  | none => rfl
  | some scope =>
    obtain hs | hs := (h.2 (by rw [hr]; rfl)).2 i
    · exact absurd hs ho
    · exact absurd hs he

theorem State.BusyFits.not_serving (h : s.BusyFits) (hr : s.resetScope.isSome = true) (i : SlotId) :
    (s.slot i).serving = false := by
  obtain hs | hs := (h.2 hr).2 i <;> simp [Slot.serving, hs, SlotState.serving]

/-- Outside a reset in progress the mailbox is all there is to keep. -/
theorem State.BusyFits.of_none (hr : t.resetScope = none) (hm : t.mailbox.state ≠ .busy) : t.BusyFits := by
  simp [State.BusyFits, hr, hm]

theorem State.BusyFits.none_of_not_busy (h : s.BusyFits) (hm : s.mailbox.state ≠ .busy) : s.resetScope = none := by
  cases hr : s.resetScope with
  | none => rfl
  | some scope => exact absurd (h.1.2 (by rw [hr]; rfl)) hm

/-- What is owed stays owed where every slot that owes goes on owing. -/
theorem resetOwesNothing_mono (hr : t.resetScope = s.resetScope) (ho : s.resetOwesNothing = false)
    (h : ∀ i, (s.slot i).nothingOwed = false → (t.slot i).nothingOwed = false) : t.resetOwesNothing = false := by
  unfold State.resetOwesNothing at ho ⊢
  rw [hr]
  cases hs : s.resetScope with
  | none => rfl
  | some scope =>
    rw [hs] at ho
    simp only [List.all_eq_false, Bool.or_eq_true, Bool.not_eq_true', not_or, Bool.not_eq_false] at ho ⊢
    obtain ⟨i, hi, hsc, hn⟩ := ho
    exact ⟨i, hi, hsc, by simpa using h i (by simpa using hn)⟩

/-- A reset in progress goes on owing, its slots where they were. -/
theorem State.BusyFits.of_owes (h : s.BusyFits) (hm : t.mailbox.state = s.mailbox.state) (hr : t.resetScope = s.resetScope)
    (hs : s.resetScope.isSome = true → ∀ i, ((t.slot i).seq.state = .offline ∨ (t.slot i).seq.state = .empty) ∧
      ((s.slot i).nothingOwed = false → (t.slot i).nothingOwed = false)) : t.BusyFits := by
  refine ⟨by rw [hm, hr]; exact h.1, fun hsome => ?_⟩
  rw [hr] at hsome
  exact ⟨resetOwesNothing_mono hr (h.2 hsome).1 fun i => (hs hsome i).2, fun i => (hs hsome i).1⟩

/-- A calm event of a sound state whose slots are still OFFLINE or EMPTY in a reset. -/
theorem State.Sound.busy_of_calm (h : s.Sound) (hc : s.Calm t)
    (hs : s.resetScope.isSome = true → ∀ i, (t.slot i).seq.state = .offline ∨ (t.slot i).seq.state = .empty) :
    t.BusyFits := by
  refine h.busy.of_owes (by rw [hc.quiet.mailbox]) hc.quiet.resetScope fun hr i => ⟨hs hr i, ?_⟩
  exact ((hc.slots i).owes (h.noPosted i (h.busy.not_serving hr i))).2

/-- A calm event at a slot that a reset in progress would have in OFFLINE or EMPTY. -/
theorem State.Sound.of_calm_active (h : s.Sound) (hc : s.Calm t)
    (hf : t.FitsAt (fun _ => false) (fun _ => s.kill) i)
    (hs : (s.slot i).seq.state ≠ .offline ∧ (s.slot i).seq.state ≠ .empty) : t.Sound :=
  (h.steady.of_calm hc hf).sound (h.busy_of_calm hc fun hr => by
    simp [h.busy.idle_of hs.1 hs.2] at hr)

/-- One slot changes calmly, within its state and phase. -/
theorem State.Sound.modSlot (h : s.Sound) {f : Slot → Slot} (hm : (s.slot i).Calm (f (s.slot i)))
    (hf : (f (s.slot i)).Fits false s.kill) (hph : (f (s.slot i)).seq.phase = (s.slot i).seq.phase)
    (hst : (f (s.slot i)).seq.state = (s.slot i).seq.state) : (s.modSlot i f).Sound := by
  refine (h.steady.modSlot hm.mild hf hph).sound (h.busy_of_calm (s.modSlot_calm i hm) fun hr j => ?_)
  rw [State.slot_modSlot]
  split
  · next hj => rw [hst]; exact hj ▸ (h.busy.2 hr).2 i
  · exact (h.busy.2 hr).2 j

/-- One slot changes calmly, its control, its Send Queue and its ORT the same. -/
theorem State.Sound.modSlot_same (h : s.Sound) {f : Slot → Slot} (hm : (s.slot i).Calm (f (s.slot i)))
    (hc : (s.slot i).SameControl (f (s.slot i)))
    (hq : (f (s.slot i)).traffic.sendQueue = (s.slot i).traffic.sendQueue)
    (ho : (f (s.slot i)).traffic.ort = (s.slot i).traffic.ort) : (s.modSlot i f).Sound :=
  h.modSlot hm ((h.steady.fits i).of_queues hc hq ho) hc.phase hc.state

end

end Sys2Proof.Machine

/-! SUPPORT. The sequencer's own commands lead from a sound state to a sound state and owe the host the same: the timers
that run out, the edges of the lines, the trips. -/

namespace Sys2Proof.Machine

variable {s t u : State} {i : SlotId}

/-! ### What a command keeps -/

/-- After a command that stops nowhere the part is sound, and owes the host what it did. -/
def State.Kept (s t : State) : Prop := t.Sound ∧ t.debt = s.debt

theorem State.Sound.kept (h : s.Sound) : s.Kept s := ⟨h, rfl⟩

theorem State.Calm.debt (h : s.Calm t) : t.debt = s.debt := h.still.debt

/-- A calm event at a slot that a reset in progress would have in OFFLINE or EMPTY. -/
theorem State.Sound.kept_active (h : s.Sound) (hc : s.Calm t) (ht : t.Steady)
    (hs : (s.slot i).seq.state ≠ .offline ∧ (s.slot i).seq.state ≠ .empty) : s.Kept t :=
  ⟨ht.sound (h.busy_of_calm hc fun hr => by simp [h.busy.idle_of hs.1 hs.2] at hr), hc.debt⟩

/-- One slot changes calmly, within its state. -/
theorem State.Sound.kept_modSlot (h : s.Sound) {f : Slot → Slot} (hm : (s.slot i).Calm (f (s.slot i)))
    (hf : (f (s.slot i)).Fits false s.kill) (hph : (f (s.slot i)).seq.phase = (s.slot i).seq.phase)
    (hst : (f (s.slot i)).seq.state = (s.slot i).seq.state) : s.Kept (s.modSlot i f) :=
  ⟨h.modSlot hm hf hph hst, (s.modSlot_calm i hm).debt⟩

/-- One slot changes calmly, its control, its Send Queue and its ORT the same. -/
theorem State.Sound.kept_same (h : s.Sound) {f : Slot → Slot} (hm : (s.slot i).Calm (f (s.slot i)))
    (hc : (s.slot i).SameControl (f (s.slot i)))
    (hq : (f (s.slot i)).traffic.sendQueue = (s.slot i).traffic.sendQueue := by simp)
    (ho : (f (s.slot i)).traffic.ort = (s.slot i).traffic.ort := by simp) : s.Kept (s.modSlot i f) :=
  ⟨h.modSlot_same hm hc hq ho, (s.modSlot_calm i hm).debt⟩

/-! ### Recovering, draining and serving slots -/

theorem State.Steady.live_kill (h : s.Steady) (hs : (s.slot i).serving = true ∨ (s.slot i).seq.state = .recovering) :
    s.kill = false := by
  cases hk : s.kill with
  | false => rfl
  | true =>
    obtain ⟨h1, h2⟩ := (h.fits i).out hk
    obtain hs | hs := hs
    · simp [h1] at hs
    · exact absurd hs h2

theorem State.Steady.attempting (h : s.Steady) (hs : (s.slot i).seq.state = .recovering) : (s.slot i).Attempting :=
  (h.fits i).attempting hs

/-- A slot in a phase that calls for no rail has no part in one. -/
theorem State.Steady.unrailed (h : s.Steady) {ph : Option Phase} (hp : (s.slot i).seq.phase = ph)
    (hg : grantPhase ph = false := by rfl) (hw : ph ≠ some .railWait := by simp) : s.Unrailed i :=
  (h.grants i).unrailed (hp ▸ hg) (hp ▸ hw)

theorem State.Steady.failAttempt (h : s.Steady) (hs : (s.slot i).seq.state = .recovering) : (s.failAttempt i).Steady :=
  h.of_calm (s.failAttempt_calm i) ((h.fitsBut i).failAttempt (h.live_kill (.inr hs)) (h.attempting hs))

theorem State.Steady.enterProbation (h : s.Steady) (hs : (s.slot i).seq.state = .recovering) {ph : Option Phase}
    (hp : (s.slot i).seq.phase = ph) (hg : grantPhase ph = false := by rfl) (hw : ph ≠ some .railWait := by simp) :
    (s.enterProbation i).Steady :=
  h.of_calm (s.enterProbation_calm i)
    ((h.fitsBut i).enterProbation (h.unrailed hp hg hw) (h.live_kill (.inr hs)) (h.attempting hs))

theorem State.Steady.settleDone (h : s.Steady) (hs : (s.slot i).seq.state = .recovering) {ph : Option Phase}
    (hp : (s.slot i).seq.phase = ph) (hg : grantPhase ph = false := by rfl) (hw : ph ≠ some .railWait := by simp) :
    (s.settleDone i).Steady :=
  h.of_calm (s.settleDone_calm i)
    ((h.fitsBut i).settleDone (h.unrailed hp hg hw) (h.live_kill (.inr hs)) (h.attempting hs))

theorem State.Steady.enterSettle (h : s.Steady) (hs : (s.slot i).seq.state = .recovering) {ph : Option Phase}
    (hp : (s.slot i).seq.phase = ph) (hg : grantPhase ph = false := by rfl) (hw : ph ≠ some .railWait := by simp) :
    (s.enterSettle i).Steady :=
  h.of_calm (s.enterSettle_calm i)
    ((h.fitsBut i).enterSettle (h.unrailed hp hg hw) (h.live_kill (.inr hs)) (h.attempting hs))

theorem State.Steady.enterResetRelease (h : s.Steady) (hs : (s.slot i).seq.state = .recovering)
    (hp : (s.slot i).seq.phase = some .resetAssert) : (s.enterResetRelease i).Steady := by
  obtain ⟨hx, hw⟩ := (h.fits i).no_access (by rw [hp]; rfl)
  exact h.of_calm (s.enterResetRelease_calm i)
    ((h.fitsBut i).enterResetRelease (h.unrailed hp) (h.live_kill (.inr hs)) (h.attempting hs) hx hw)

/-- The end of POWER_ON gives the rail to a waiting partner and releases SLOT-RESET (R110). -/
theorem State.Steady.releaseRail_enterResetRelease (h : s.Steady) (hs : (s.slot i).seq.state = .recovering)
    (hp : (s.slot i).seq.phase = some .powerOn) : ((s.releaseRail i).enterResetRelease i).Steady := by
  obtain ⟨hx, hw⟩ := (h.fits i).no_access (by rw [hp]; rfl)
  obtain ⟨hb, hu, hslot⟩ := (h.fitsBut i).releaseRail
  exact h.of_calm ((s.releaseRail_calm i).trans (State.enterResetRelease_calm _ i))
    (hb.enterResetRelease hu (h.live_kill (.inr hs)) (hslot ▸ h.attempting hs) (hslot ▸ hx) (hslot ▸ hw))

theorem State.Steady.passStep (h : s.Steady) (hs : (s.slot i).seq.state = .recovering)
    (hp : (s.slot i).seq.phase = some .restoring) : (s.passStep i).Steady := by
  refine h.of_calm (i := i) (s.passStep_calm i) ?_
  have hu := h.unrailed hp
  have hk := h.live_kill (.inr hs)
  unfold State.passStep
  split
  · exact ⟨h.fitsBut i, h.fits i, h.grants i⟩
  · split
    · exact (h.fitsBut i).startStep hu hk (h.attempting hs) hp _ _
    · exact (h.fitsBut i).enterProbation hu hk (h.attempting hs)

theorem State.Steady.trip (h : s.Steady) (hs : (s.slot i).serving = true) (c : TripCause) (b : Bool) {view : TripView}
    (hv : (s.slot i).DataOk → view.InRange) : (s.trip i c b view).Steady :=
  h.of_calm (s.trip_calm i c b hv) ((h.fitsBut i).trip (h.fits i).unkilled (h.grants i) hs c b view)

theorem State.Steady.tripNow (h : s.Steady) (hs : (s.slot i).serving = true) (c : TripCause) : (s.tripNow i c).Steady :=
  h.trip hs c false fun hd => hd.tripView _

theorem State.Steady.endDraining (h : s.Steady) (hs : (s.slot i).seq.state = .draining) : (s.endDraining i).Steady := by
  have hd := (h.fits i).draining hs
  exact h.of_calm (s.endDraining_calm i) ((h.fitsBut i).endDraining (h.unrailed hd.phase) hd)

theorem State.Steady.abort (h : s.Steady) (hs : (s.slot i).seq.state.inSequence = true) : (s.abort i).Steady :=
  h.of_calm (s.abort_calm i) ((h.fitsBut i).abort (h.fits i).unkilled.weaken hs)

theorem State.Steady.goOnline (h : s.Steady) (hs : (s.slot i).seq.state = .probation) : (s.goOnline i).Steady := by
  have hserv : (s.slot i).serving = true := Slot.serving_iff.2 (.inr hs)
  obtain ⟨hph, -, -, -⟩ := (h.fits i).serving_halted hserv
  exact h.of_calm (s.goOnline_calm i)
    ((h.fitsBut i).goOnline (h.unrailed hph) (h.live_kill (.inl hserv)) (h.fits i).unkilled hs)

/-! ### Changes of a RECOVERING slot within its phase -/

/-- A timer of the executor or a reissue timer changes. -/
theorem Slot.Fits.issue {p : Slot} {d k : Bool} (h : p.Fits d k) (hs : p.seq.state = .recovering)
    (hx : executorPhase p.seq.phase = true) : p.issue.Fits d k := by
  have hk : k = false := by
    cases k
    · rfl
    · exact absurd hs (h.out rfl).2
  subst hk
  cases hp : p.seq.phase with
  | none => simp [hp, executorPhase] at hx
  | some ph =>
    exact (h.attempting hs).issue_fits hp (hp ▸ hx) fun hw => ((h.shaped).2.2.2.2.2.2.1 hw).2

end Sys2Proof.Machine

/-! SUPPORT. The unit timers, the executor's accesses and answers, and the edges of links and lines keep a sound state
sound and what the host is owed. -/

namespace Sys2Proof.Machine

variable {s t u : State} {i : SlotId}

/-- Whatever state a command leads to, it is sound and owes the host the same. -/
def State.KeptBy (s : State) (o : Host.Outcome State Fault Refusal) : Prop := ∀ t, o = .next t → s.Kept t

theorem State.Kept.by (h : s.Kept t) : s.KeptBy (.next t) := by
  intro u hu
  cases hu
  exact h

/-- A command that takes effect under a condition. -/
theorem State.Sound.kept_ite (h : s.Sound) {c : Prop} [Decidable c] (ht : c → s.Kept t) :
    s.KeptBy (.next (if c then t else s)) := by
  split
  · next hc => exact (ht hc).by
  · exact h.kept.by

/-! ### Unit timers -/

theorem Slot.phaseRanOut_iff {p : Slot} {ph : Phase} : p.phaseRanOut ph = true ↔
    p.seq.state = .recovering ∧ p.seq.phase = some ph ∧ p.ranOut p.seq.phaseTimer = true := by
  simp [Slot.phaseRanOut, and_assoc]

theorem Slot.stepRanOut_iff {p : Slot} {t : UnitTimer} : p.stepRanOut t = true ↔
    p.seq.state = .recovering ∧ p.seq.phase = some .restoring ∧ p.ranOut t = true := by
  simp [Slot.stepRanOut, and_assoc]

theorem Slot.active_of {p : Slot} {st : SlotState} (hs : p.seq.state = st)
    (h : st ≠ .offline ∧ st ≠ .empty := by simp) : p.seq.state ≠ .offline ∧ p.seq.state ≠ .empty := hs ▸ h

theorem State.Sound.failAttempt (h : s.Sound) (hs : (s.slot i).seq.state = .recovering) : s.Kept (s.failAttempt i) :=
  h.kept_active (s.failAttempt_calm i) (h.steady.failAttempt hs) (Slot.active_of hs)

/-- An access is issued in a phase of the executor after a timer that no state asks about has changed. -/
theorem State.Sound.reissue (h : s.Sound) {f : Slot → Slot} (hc : (s.slot i).Calm (f (s.slot i)))
    (hk : (s.slot i).SameControl (f (s.slot i)))
    (hq : (f (s.slot i)).traffic = (s.slot i).traffic)
    (hs : (s.slot i).seq.state = .recovering) (hp : executorPhase (s.slot i).seq.phase = true) :
    s.Kept (s.modSlot i fun p => (f p).issue) := by
  have hf : (f (s.slot i)).Fits false s.kill := (h.steady.fits i).of_queues hk (by rw [hq]) (by rw [hq])
  exact h.kept_modSlot (hc.trans (Slot.issue_calm _))
    (hf.issue (hk.state.trans hs) (by rw [hk.phase]; exact hp))
    (by rw [Slot.issue_seq]; exact hk.phase) (by rw [Slot.issue_seq]; exact hk.state)

theorem execDrainTimerRunsOut_kept (h : s.Sound) : s.KeptBy (execDrainTimerRunsOut i s) := by
  refine h.kept_ite fun hc => ?_
  have hs : (s.slot i).seq.state = .draining := by simp at hc; exact hc.1
  exact h.kept_active (s.endDraining_calm i) (h.steady.endDraining hs) (Slot.active_of hs)

theorem execFunctionResetTimerRunsOut_kept (h : s.Sound) : s.KeptBy (execFunctionResetTimerRunsOut i s) :=
  h.kept_ite fun hc => h.failAttempt (Slot.phaseRanOut_iff.1 hc).1

theorem execLinkWaitTimerRunsOut_kept (h : s.Sound) : s.KeptBy (execLinkWaitTimerRunsOut i s) :=
  h.kept_ite fun hc => h.failAttempt (Slot.phaseRanOut_iff.1 hc).1

theorem execPwrgdLimitRunsOut_kept (h : s.Sound) : s.KeptBy (execPwrgdLimitRunsOut i s) :=
  h.kept_ite fun hc => h.failAttempt (Slot.phaseRanOut_iff.1 (Bool.and_eq_true_iff.1 hc).1).1

theorem execStepTimerRunsOut_kept (h : s.Sound) : s.KeptBy (execStepTimerRunsOut i s) :=
  h.kept_ite fun hc => h.failAttempt (Slot.stepRanOut_iff.1 hc).1

theorem execPollLimitRunsOut_kept (h : s.Sound) : s.KeptBy (execPollLimitRunsOut i s) :=
  h.kept_ite fun hc => h.failAttempt (Slot.stepRanOut_iff.1 hc).1

theorem execFunctionResetReissue_kept (h : s.Sound) : s.KeptBy (execFunctionResetReissue i s) := by
  refine h.kept_ite fun hc => ?_
  simp only [Bool.and_eq_true, beq_iff_eq] at hc
  obtain ⟨⟨hs, hp⟩, -⟩ := hc
  exact h.reissue (f := fun p => { p with seq := { p.seq with reissueTimer := none } })
    (.of_eq) .of_eq rfl hs (by rw [hp]; rfl)

theorem execStepReissue_kept (h : s.Sound) : s.KeptBy (execStepReissue i s) := by
  refine h.kept_ite fun hc => ?_
  obtain ⟨hs, hp, -⟩ := Slot.stepRanOut_iff.1 hc
  exact h.reissue (f := fun p => { p with exec := { p.exec with reissueTimer := none } })
    (.of_eq) .of_eq rfl hs (by rw [hp]; rfl)

theorem execPollIntervalRunsOut_kept (h : s.Sound) : s.KeptBy (execPollIntervalRunsOut i s) := by
  refine h.kept_ite fun hc => ?_
  obtain ⟨hs, hp, -⟩ := Slot.stepRanOut_iff.1 hc
  exact h.reissue (f := fun p => { p with exec := { p.exec with intervalTimer := none } })
    (.of_eq) .of_eq rfl hs (by rw [hp]; rfl)

theorem execResetAssertTimerRunsOut_kept (h : s.Sound) : s.KeptBy (execResetAssertTimerRunsOut i s) := by
  refine h.kept_ite fun hc => ?_
  obtain ⟨hs, hp, -⟩ := Slot.phaseRanOut_iff.1 hc
  exact h.kept_active (s.enterResetRelease_calm i) (h.steady.enterResetRelease hs hp) (Slot.active_of hs)

theorem execSettleTimerRunsOut_kept (h : s.Sound) : s.KeptBy (execSettleTimerRunsOut i s) := by
  refine h.kept_ite fun hc => ?_
  obtain ⟨hs, hp, -⟩ := Slot.phaseRanOut_iff.1 hc
  exact h.kept_active (s.settleDone_calm i) (h.steady.settleDone hs hp) (Slot.active_of hs)

/-- POWER_ON is entered from POWER_OFF. -/
theorem Slot.Fits.enterPowerOn {p : Slot} {d k : Bool} (h : p.Fits d k) (hs : p.seq.state = .recovering)
    (hp : p.seq.phase = some .powerOff) : p.enterPowerOn.Fits d k ∧ p.enterPowerOn.seq.state = .recovering ∧
      p.enterPowerOn.seq.phase = some .powerOn := by
  have hk : k = false := by
    cases k
    · rfl
    · exact absurd hs (h.out rfl).2
  subst hk
  have ha := h.attempting hs
  obtain ⟨hx, hw⟩ := h.no_access (by rw [hp]; rfl)
  have hreset := (h.lined.2.2.2.2.1 hp).1
  have hon : ((p.setPower true).enterPhase .powerOn (some (units p.seq.sample.pwrgdLimit))).Fits d false ∧
      (p.setPower true).lines.powerEnable = p.lines.powerControl := by
    have hpow : (p.setPower true).lines.powerEnable = p.lines.powerControl := by simp [Slot.setPower]
    have hseat : (p.setPower true).Seated :=
      ⟨ha.contained.seated.present, fun hc => hpow.trans hc, ha.contained.seated.previous⟩
    have hat : ((p.setPower true).enterPhase .powerOn (some (units p.seq.sample.pwrgdLimit))).Attempting :=
      ⟨⟨⟨hseat.present, hseat.power, hseat.previous⟩, ha.contained.none_live, ha.contained.awaits⟩, ha.pending.congr,
        hs, ha.level.congr, ha.drainTimer, ha.probationTimer⟩
    refine ⟨hat.fits (ph := .powerOn) rfl (by simp) (fun hc => ?_) (fun hc => ?_) (by simp) (by simp)
      (fun _ => ⟨hreset, hpow⟩), hpow⟩
    · exact absurd hc (by simp [hx])
    · exact absurd hc (by simp [hw])
  unfold Slot.enterPowerOn
  dsimp only
  split
  · exact ⟨hon.1.of_queues .of_eq rfl rfl,
      hs, rfl⟩
  · exact ⟨hon.1, hs, rfl⟩

theorem execPowerOffTimerRunsOut_kept (h : s.Sound) : s.KeptBy (execPowerOffTimerRunsOut i s) := by
  refine h.kept_ite fun hc => ?_
  obtain ⟨hs, hp, -⟩ := Slot.phaseRanOut_iff.1 hc
  obtain ⟨hf, hst, hph⟩ := (h.steady.fits i).enterPowerOn hs hp
  have hcalm := s.modSlot_calm i (s.slot i).enterPowerOn_calm
  refine h.kept_active hcalm (h.steady.of_still hcalm.still ?_ (fun j => ?_) ?_) (Slot.active_of hs)
  · exact h.steady.fits_of_same (i := i) rfl (fun j hj => by simp [hj]) (by simpa using hf)
  · have hg := h.steady.grants j
    by_cases hj : j = i
    · subst hj
      simpa [State.GrantOk, hph, hp, grantPhase] using hg
    · simpa [State.GrantOk, hj] using hg
  · exact h.steady.rails_of_same fun _ => by simp

theorem execOnSettleRunsOut_kept (h : s.Sound) : s.KeptBy (execOnSettleRunsOut i s) := by
  refine h.kept_ite fun hc => ?_
  obtain ⟨hs, hp, -⟩ := Slot.phaseRanOut_iff.1 (Bool.and_eq_true_iff.1 hc).1
  exact h.kept_active ((s.releaseRail_calm i).trans (State.enterResetRelease_calm _ i))
    (h.steady.releaseRail_enterResetRelease hs hp) (Slot.active_of hs)

theorem execPauseRunsOut_kept (h : s.Sound) : s.KeptBy (execPauseRunsOut i s) := by
  refine h.kept_ite fun hc => ?_
  obtain ⟨hs, hp, -⟩ := Slot.stepRanOut_iff.1 hc
  exact h.kept_active (s.passStep_calm i) (h.steady.passStep hs hp) (Slot.active_of hs)

theorem execProbationTimerRunsOut_kept (h : s.Sound) : s.KeptBy (execProbationTimerRunsOut i s) := by
  refine h.kept_ite fun hc => ?_
  have hs : (s.slot i).seq.state = .probation := by simp at hc; exact hc.1
  exact h.kept_active (s.goOnline_calm i) (h.steady.goOnline hs) (Slot.active_of hs)

/-! ### The executor's accesses -/

theorem execExecutorAccessSend_kept (h : s.Sound) : s.KeptBy (execExecutorAccessSend i s) := by
  unfold execExecutorAccessSend
  cases ha : (s.slot i).exec.inFlight with
  | none => exact h.kept.by
  | some a =>
    refine h.kept_ite fun _ => ?_
    let q : Slot := { s.slot i with
      exec := { (s.slot i).exec with inFlight := some { a with onLink := true } }
      traffic := { (s.slot i).traffic with linkSent := (s.slot i).traffic.linkSent ++ [
        match a.request with
        | .write off be data => .cfgWrite ownRequester a.tag off be data
        | .read off => .cfgRead ownRequester a.tag off] } }
    have hq : (s.slot i).Calm q :=
      { data := fun hd => (hd.with_traffic (tr := q.traffic) hd.bounded.1 hd.bounded.2.1 (.refl _) (.refl _)).congr rfl rfl rfl
          rfl rfl rfl rfl rfl rfl rfl rfl
        debt := rfl
        answering := fun _ => rfl
        owes := fun ho => ⟨ho, id⟩ }
    have hk : (s.slot i).SameControl q :=
      .of_eq (h13 := by simp [q, ha])
    have hfit : q.Fits false s.kill := (h.steady.fits i).of_queues hk rfl rfl
    refine h.kept_modSlot (f := fun p =>
      let q : Slot := { p with
        exec := { p.exec with inFlight := some { a with onLink := true } }
        traffic := { p.traffic with linkSent := p.traffic.linkSent ++ [
          match a.request with
          | .write off be data => .cfgWrite ownRequester a.tag off be data
          | .read off => .cfgRead ownRequester a.tag off] } }
      if p.seq.phase = some .functionReset then q.tombstoneClear else q) ?_ ?_ ?_ ?_ <;> dsimp only <;> split
    · exact hq.trans q.tombstoneClear_calm
    · exact hq
    · refine hfit.of_same (.of_fields) ?_ ?_ ?_
      · rw [Slot.liveCount, tombstoneClear_liveCount]; exact hfit.live
      · rw [Slot.liveCount, tombstoneClear_liveCount]; exact hfit.drains
      · exact hfit.awaits
    · exact hfit
    all_goals rfl

end Sys2Proof.Machine

/-! SUPPORT. Detection, the edges of links and lines and the end of a tick keep a sound state sound and what the host is
owed. -/

namespace Sys2Proof.Machine

variable {s t u : State} {i : SlotId}

/-- Only the value at the slot as it stands counts. -/
theorem State.modSlot_congr {f g : Slot → Slot} (h : f (s.slot i) = g (s.slot i)) : s.modSlot i f = s.modSlot i g := by
  rw [State.modSlot_eq, State.modSlot_eq, h]

/-! ### One slot beside the rails -/

/-- One slot of a steady state changes calmly, its control the same, its Send Queue and its ORT too. -/
theorem State.Steady.modSlot_same (h : s.Steady) {f : Slot → Slot} (hm : (s.slot i).Mild (f (s.slot i)))
    (hc : (s.slot i).SameControl (f (s.slot i)))
    (hq : (f (s.slot i)).traffic.sendQueue = (s.slot i).traffic.sendQueue := by simp)
    (ho : (f (s.slot i)).traffic.ort = (s.slot i).traffic.ort := by simp) : (s.modSlot i f).Steady :=
  h.modSlot hm ((h.fits i).of_queues hc hq ho) hc.phase

theorem Slot.active_of_serving {p : Slot} (hs : p.serving = true) : p.seq.state ≠ .offline ∧ p.seq.state ≠ .empty := by
  obtain hs | hs := Slot.serving_iff.1 hs <;> simp [hs]

/-- A trip after a calm change of the slot within its state. -/
theorem State.Sound.kept_trip (h : s.Sound) (hc : s.Calm u) (hu : u.Steady)
    (hst : (u.slot i).seq.state = (s.slot i).seq.state) (hs : (s.slot i).serving = true) (c : TripCause) (b : Bool)
    {view : TripView} (hv : (u.slot i).DataOk → view.InRange) : s.Kept (u.trip i c b view) := by
  have hsu : (u.slot i).serving = true := by rw [Slot.serving, hst]; exact hs
  exact h.kept_active (hc.trans (u.trip_calm i c b hv)) (hu.trip hsu c b hv) (Slot.active_of_serving hs)

/-! ### Detection -/

theorem Slot.Calm.of_detect {p : Slot} {d : Detection} (h : p.detect.InRange → d.InRange) :
    p.Calm { p with detect := d } := .of_traffic rfl fun hd => hd.with_detect (h hd.detect)

theorem execStallTrip_kept (h : s.Sound) : s.KeptBy (execStallTrip i s) := by
  refine h.kept_ite fun hc => ?_
  have hs := (Bool.and_eq_true_iff.1 hc).1
  have hcalm : (s.slot i).Calm { s.slot i with detect := { (s.slot i).detect with stallDue := false } } :=
    .of_detect id
  exact h.kept_trip (s.modSlot_calm i hcalm) (h.steady.modSlot_same hcalm.mild .of_fields rfl rfl)
    (by simp) hs _ _ fun hd => hd.tripView _

theorem execCorrectedLinkError_kept (h : s.Sound) : s.KeptBy (execCorrectedLinkError i s) :=
  h.kept_ite fun _ => h.kept_same
    (.of_detect fun ⟨h1, h2, _, h4⟩ => ⟨h1, h2, satAdd_le .., h4⟩) .of_fields rfl rfl

theorem Slot.visitServing_calm (p : Slot) : p.Calm p.visitServing :=
  .of_detect fun ⟨h1, h2, _⟩ => ⟨h1, h2, Nat.zero_le _, Nat.zero_le _, Nat.min_le_left .., Nat.min_le_left ..⟩

/-- A visit to a slot. -/
theorem State.Sound.kept_visit (h : s.Sound) (i : SlotId) : s.Kept (s.visit i) := by
  have hcalm := (s.slot i).visitServing_calm
  have hv := h.steady.modSlot_same hcalm.mild .of_fields rfl rfl
  unfold State.visit
  split
  · next hs =>
    dsimp only
    split
    · exact h.kept_trip (s.modSlot_calm i hcalm) hv (by simp [Slot.visitServing]) hs _ _ fun hd => hd.tripView _
    · split
      · exact h.kept_trip (s.modSlot_calm i hcalm) hv (by simp [Slot.visitServing]) hs _ _ fun hd => hd.tripView _
      · exact h.kept_same hcalm .of_fields rfl rfl
  · exact h.kept_same (Slot.clearHealth_calm _) (Slot.clearHealth_control _) rfl rfl

/-- The part's own settings change within their ranges. -/
theorem State.Sound.with_settings (h : s.Sound) {tm : Timebase} {hm : HealthMonitor}
    (hr : s.PartInRange → ({ s with time := tm, health := hm } : State).PartInRange) :
    ({ s with time := tm, health := hm } : State).Sound :=
  State.Steady.sound ⟨h.steady.data, h.steady.fits, h.steady.grants, h.steady.rails, h.steady.saq, h.steady.owners,
    h.head, h.presents, hr h.steady.ranges⟩ h.busy

theorem execHealthVisit_kept (h : s.Sound) : s.KeptBy (execHealthVisit s) := by
  refine h.kept_ite fun _ => ?_
  have hs : ({ s with health := { s.health with
      visitTimer := s.health.visit, nextSlot := s.health.nextSlot.succ } } : State).Sound :=
    h.with_settings fun ⟨h1, h2, h3, h4, h5, _⟩ => ⟨h1, h2, h3, h4, h5, h5⟩
  exact hs.kept_visit s.health.nextSlot

/-! ### Expiry -/

theorem updateFirst_map_eq {α β : Type} {p : α → Bool} {f : α → α} {g : α → β} (hf : ∀ x, g (f x) = g x) (l : List α) :
    (updateFirst p f l).map g = l.map g := by
  induction l with
  | nil => rfl
  | cons x xs ih =>
    simp only [updateFirst]
    split <;> simp [hf, ih]

theorem updateFirst_countP_eq {α : Type} {p q : α → Bool} {f : α → α} (hf : ∀ x, p x = true → q (f x) = q x) (l : List α) :
    (updateFirst p f l).countP q = l.countP q := by
  induction l with
  | nil => rfl
  | cons x xs ih =>
    simp only [updateFirst]
    split
    · next hp => simp only [List.countP_cons, hf x hp]
    · simp only [List.countP_cons, ih]

theorem updateFirst_any_imp {α : Type} {p q : α → Bool} {f : α → α} (hf : ∀ x, q x = true → q (f x) = true) {l : List α}
    (h : l.any q = true) : (updateFirst p f l).any q = true := by
  induction l with
  | nil => exact h
  | cons x xs ih =>
    simp only [updateFirst, List.any_cons, Bool.or_eq_true] at h ⊢
    split
    · simp only [List.any_cons, Bool.or_eq_true]
      exact h.imp (hf x) id
    · simp only [List.any_cons, Bool.or_eq_true]
      exact h.imp id ih

/-- An entry of the ORT is fenced. -/
theorem Slot.fenceFirst_calm (p : Slot) (c : Entry → Bool) :
    p.Calm { p with traffic := { p.traffic with ort := updateFirst c Entry.fence p.traffic.ort } } where
  data h := h.with_ort (by rw [updateFirst_map_eq (fun x => by simp)]) (by rw [updateFirst_map_eq (fun x => by simp)])
  debt := by simp only [Slot.debt, updateFirst_countP_eq (q := Entry.owed) fun x _ => x.fence_owed]
  answering n := by
    simp only [Slot.answeringAt]
    exact updateFirst_countP_eq (fun x _ => by simp only [Entry.fence_number, Entry.fence_answering]) _
  owes h := by
    refine ⟨h, fun ho => ?_⟩
    simp only [Slot.nothingOwed, Bool.and_eq_false_iff, Bool.not_eq_false'] at ho ⊢
    exact ho.imp_left (updateFirst_any_imp (q := Entry.isFenced) fun _ hf => Entry.isFenced_fence hf)

theorem execExpiry_kept (h : s.Sound) (n : Nat) : s.KeptBy (execExpiry i n s) := by
  refine h.kept_ite fun hc => ?_
  have hlive : 0 < (s.slot i).liveCount := by
    simp only [Slot.expiring, List.any_eq_true, Bool.and_eq_true] at hc
    obtain ⟨e, he, ⟨-, hl⟩, -⟩ := hc
    exact List.countP_pos_iff.2 ⟨e, he, hl⟩
  have hstate := (h.steady.fits i).live hlive
  have hcalm := s.modSlot_calm i (f := fun p => { p with traffic := { p.traffic with
      ort := updateFirst (fun e => e.hasNumber n && e.isLive) Entry.fence p.traffic.ort } })
    ((s.slot i).fenceFirst_calm fun e => e.hasNumber n && e.isLive)
  have hb := (h.steady.fitsBut i).modSlot fun p => { p with traffic := { p.traffic with
    ort := updateFirst (fun e => e.hasNumber n && e.isLive) Entry.fence p.traffic.ort } }
  have hg : (s.modSlot i fun p => { p with traffic := { p.traffic with
      ort := updateFirst (fun e => e.hasNumber n && e.isLive) Entry.fence p.traffic.ort } }).GrantOk i := by
    have hg := h.steady.grants i
    simpa [State.GrantOk] using hg
  have hview : (s.slot i).DataOk → ((s.slot i).tripView s.time.now).InRange := fun hd => hd.tripView _
  have hdata := h.steady.data i
  dsimp only
  split
  · next hs =>
    have hc := hcalm.trans (State.trip_calm _ i .deadline false (view := (s.slot i).tripView s.time.now) fun _ => hview hdata)
    refine h.kept_active hc (h.steady.of_calm hc (hb.trip ?_ hg ?_ _ _ _)) (Slot.active_of_serving hs)
    · rw [State.slot_modSlot_same]
      refine (h.steady.fits i).unkilled.of_same .of_fields (fun _ => .inl hs) (fun _ hd => ?_) (h.steady.fits i).awaits
      exact absurd hs (by simp [Slot.serving, show (s.slot i).seq.state = .draining from hd, SlotState.serving])
    · rw [State.slot_modSlot_same]; exact hs
  · next hs =>
    have hd : (s.slot i).seq.state = .draining := hstate.resolve_left hs
    have hc := hcalm.trans (State.drainIfIdle_calm _ i)
    have hfit : Slot.Fits true s.kill { s.slot i with traffic := { (s.slot i).traffic with
        ort := updateFirst (fun e => e.hasNumber n && e.isLive) Entry.fence (s.slot i).traffic.ort } } :=
      (h.steady.fits i).weaken.of_same .of_fields (fun _ => .inr hd) (fun hx => absurd hx (by simp)) (h.steady.fits i).awaits
    exact h.kept_active hc (h.steady.of_calm hc (hb.drainIfIdle (by rw [State.slot_modSlot_same]; exact hfit) hg))
      (Slot.active_of hd)

/-! ### Edges of the slot links and of PWRGD -/

theorem Slot.setLink_control (p : Slot) (up : Bool) : p.SameControl (p.setLink up) := .of_eq
theorem Slot.setPwrgd_control (p : Slot) (on : Bool) : p.SameControl (p.setPwrgd on) := .of_eq

/-- A line goes down: a serving slot trips, a contained one with an incident gains a cause, an attempt that needs the line
fails, and otherwise the line is all that changes. -/
theorem State.Sound.kept_line (h : s.Sound) {f : Slot → Slot} (hcalm : (s.slot i).Calm (f (s.slot i)))
    (hk : (s.slot i).SameControl (f (s.slot i))) (ht : (f (s.slot i)).traffic = (s.slot i).traffic) (c : TripCause)
    (b : Bool) : s.Kept (match (s.slot i).seq.state with
      | .online => (s.modSlot i f).tripNow i c
      | .probation => (s.modSlot i f).tripNow i c
      | .draining => (s.modSlot i f).modSlot i fun p => p.addFurther c
      | .fenced => (s.modSlot i f).modSlot i fun p => p.addFurther c
      | .recovering => if b then (s.modSlot i f).failAttempt i else s.modSlot i f
      | .offline => s.modSlot i f
      | .retired => s.modSlot i f
      | .empty => s.modSlot i f) := by
  have hu : (s.modSlot i f).Sound := h.modSlot_same hcalm hk (by rw [ht]) (by rw [ht])
  have hkept : s.Kept (s.modSlot i f) := h.kept_same hcalm hk (by rw [ht]) (by rw [ht])
  have hslot : (s.modSlot i f).slot i = f (s.slot i) := by simp
  have hst : ((s.modSlot i f).slot i).seq.state = (s.slot i).seq.state := by rw [hslot]; exact hk.state
  have htrip : (s.slot i).serving = true → s.Kept ((s.modSlot i f).tripNow i c) := fun hs =>
    h.kept_trip (s.modSlot_calm i hcalm) hu.steady hst hs _ _ fun hd => hd.tripView _
  have hfurther : s.Kept ((s.modSlot i f).modSlot i fun p => p.addFurther c) := by
    obtain ⟨h1, h2⟩ := hu.kept_same (i := i) (f := fun p => p.addFurther c) (Slot.addFurther_calm _ c)
      (Slot.addFurther_control _ c)
    exact ⟨h1, h2.trans hkept.2⟩
  cases hs : (s.slot i).seq.state with
  | online => exact htrip (Slot.serving_iff.2 (.inl hs))
  | probation => exact htrip (Slot.serving_iff.2 (.inr hs))
  | draining | fenced => exact hfurther
  | recovering =>
    dsimp only
    split
    · obtain ⟨h1, h2⟩ := hu.failAttempt (hst.trans hs)
      exact ⟨h1, h2.trans hkept.2⟩
    · exact hkept
  | offline | retired | empty => exact hkept

theorem execLinkLoss_kept (h : s.Sound) : s.KeptBy (execLinkLoss i s) :=
  h.kept_ite fun _ => h.kept_line (Slot.setLink_calm _ _) (Slot.setLink_control _ _) rfl .linkDown
    (linkLossFails (s.slot i).seq.phase)

theorem execPowerLoss_kept (h : s.Sound) : s.KeptBy (execPowerLoss i s) :=
  h.kept_ite fun _ => h.kept_line (Slot.setPwrgd_calm _ _) (Slot.setPwrgd_control _ _) rfl .powerLoss
    (s.slot i).powerLossFails

theorem execLinkUp_kept (h : s.Sound) : s.KeptBy (execLinkUp i s) := by
  unfold execLinkUp
  split
  · exact h.kept.by
  · refine State.Kept.by ?_
    have hu : (s.modSlot i fun p => p.setLink true).Sound :=
      h.modSlot_same (Slot.setLink_calm _ _) (Slot.setLink_control _ _) rfl rfl
    have hcalm := s.modSlot_calm i (f := fun p => p.setLink true) ((s.slot i).setLink_calm true)
    dsimp only
    split
    · next hc =>
      refine h.kept_active (hcalm.trans (State.enterSettle_calm _ i)) (hu.steady.enterSettle (ph := some .linkWait) ?_ ?_)
        (Slot.active_of hc.1)
      · simpa [Slot.setLink] using hc.1
      · simpa [Slot.setLink] using hc.2
    · exact ⟨hu, hcalm.debt⟩

theorem execPowerRise_kept (h : s.Sound) : s.KeptBy (execPowerRise i s) := by
  unfold execPowerRise
  split
  · exact h.kept.by
  · refine State.Kept.by (h.kept_same ?_ ?_ ?_ ?_)
    · split
      · exact (Slot.setPwrgd_calm _ _).trans (Slot.startOnSettle_calm _)
      · exact Slot.setPwrgd_calm _ _
    · split <;> exact .of_eq
    · split <;> rfl
    · split <;> rfl

/-! ### KILL released, removal and insertion -/

theorem State.raiseKill_calm (s : State) : s.Calm s.raiseKill where
  quiet := .of_fields (by simp) (by simp) (by simp) (by simp) (by simp) (by simp) (by simp) (by simp) (by simp) (by simp)
    (by simp) (by simp) (by simp) (by simp) (by simp) (by simp) (by simp)
  slots j := by rw [State.slot_raiseKill]; exact .refl _
  presents h := h.raiseKill

theorem State.rail_raiseKill (s : State) (r : RailId) : s.raiseKill.rail r = s.rail r :=
  State.rail_of (by simp) (by simp) r

theorem execKillDeassert_kept (h : s.Sound) : s.KeptBy (execKillDeassert s) := by
  refine h.kept_ite fun _ => ?_
  have hcalm := State.raiseKill_calm { s with kill := false }
  have hst : ∀ j, ({ s with kill := false } : State).raiseKill.slot j = s.slot j := fun j => by
    rw [State.slot_raiseKill]; rfl
  have hsteady : ({ s with kill := false } : State).Steady :=
    ⟨h.steady.data, fun j => (h.steady.fits j).unkilled, h.steady.grants, h.steady.rails, h.steady.saq, h.steady.owners,
      h.head, h.presents, h.steady.ranges⟩
  refine ⟨(hsteady.of_still hcalm.still (fun j => ?_) (fun j => ?_) fun r => ?_).sound ?_, hcalm.debt⟩
  · rw [hst, hcalm.quiet.kill]; exact hsteady.fits j
  · simpa only [State.GrantOk, State.slot_raiseKill, State.rail_raiseKill] using hsteady.grants j
  · simpa only [State.RailOk, State.rail_raiseKill] using hsteady.rails r
  · refine h.busy.of_owes (by rw [hcalm.quiet.mailbox]) hcalm.quiet.resetScope fun hr j => ?_
    rw [hst]
    exact ⟨(h.busy.2 hr).2 j, id⟩

theorem State.slot_releaseRail_of_seated (hb : s.FitsBut (fun _ => false) (fun _ => s.kill) i) (j : SlotId)
    (hj : (s.slot j).seq.state = .offline ∨ (s.slot j).seq.state = .empty) (hji : j ≠ i) :
    (s.releaseRail i).slot j = s.slot j := by
  unfold State.releaseRail
  dsimp only
  split
  · split
    · next w hw =>
      have hjw : j ≠ w := by
        rintro rfl
        obtain ⟨hwr, -, -⟩ := (hb.rails i.rail).2 j hw
        have hph := (hb.grants j hji).2.2 (by rw [hwr]; exact hw)
        have hrec := (hb.others j hji).shaped.1.1 (by rw [hph]; rfl)
        simp [hrec] at hj
      simp [hjw]
    · simp
  · split
    · simp
    · rfl

@[simp] theorem Slot.closedAs_state (p : Slot) (oc : IncidentOutcome) (time : Ticks) :
    (p.closedAs oc time).seq.state = p.seq.state := rfl

/-- The removal's incident leaves the slot's state alone. -/
theorem State.removalIncident_state (s : State) (i : SlotId) (before : Slot) :
    ((s.removalIncident i before).slot i).seq.state = (s.slot i).seq.state := by
  unfold State.removalIncident
  split
  · obtain ⟨r, -, -, -, hr⟩ := s.slot_openIncident_same i .fault .removal 0 .online (before.tripView s.time.now)
    rw [State.slot_closeIncident_same, Slot.closedAs_state, hr]
  · rw [State.slot_closeIncident_same, Slot.closedAs_state]

theorem execRemoval_kept (h : s.Sound) : s.KeptBy (execRemoval i s) := by
  refine h.kept_ite fun _ => ?_
  have hcalm : s.Calm (((s.modSlot i Slot.remove).releaseRail i).removalIncident i (s.slot i)) := by
    refine (s.modSlot_calm i (s.slot i).remove_calm).trans ((State.releaseRail_calm _ i).trans
      (State.removalIncident_calm _ i fun _ => h.steady.data i))
  have hf := (h.steady.fitsBut i).removal (h.steady.fits i).unkilled.weaken
  refine ⟨(h.steady.of_calm hcalm hf).sound (h.busy_of_calm hcalm fun hr j => ?_), hcalm.debt⟩
  by_cases hj : j = i
  · subst hj
    right
    have hslot := ((h.steady.fitsBut j).modSlot Slot.remove).releaseRail.2.2
    rw [State.slot_modSlot_same] at hslot
    rw [State.removalIncident_state, hslot]
    exact (h.steady.fits j).remove.2.2.2.2.2.2.1
  · have hstate : (((s.modSlot i Slot.remove).releaseRail i).slot j) = s.slot j := by
      rw [State.slot_releaseRail_of_seated ((h.steady.fitsBut i).modSlot _) j (by simpa [hj] using (h.busy.2 hr).2 j) hj]
      simp [hj]
    have hlast : (((s.modSlot i Slot.remove).releaseRail i).removalIncident i (s.slot i)).slot j = s.slot j := by
      rw [← hstate]
      unfold State.removalIncident
      split <;> simp [hj]
    rw [hlast]
    exact (h.busy.2 hr).2 j

theorem execInsertion_kept (h : s.Sound) : s.KeptBy (execInsertion i s) := by
  unfold execInsertion
  split
  · exact h.kept.by
  · next hp =>
    refine State.Kept.by ?_
    have hf := h.steady.fits i
    have hs : (s.slot i).seq.state = .empty := hf.lined.1.1 (by simpa using hp)
    have hcalm : (s.slot i).Calm (((s.slot i).setPresent true).setState .offline) :=
      (Slot.setPresent_calm _ _).trans (Slot.setState_calm _ _)
    obtain ⟨hh, hl, hd⟩ := hf.halted (by simp [hs, SlotState.inSequence])
    obtain ⟨ho, ha⟩ := hf.closed (by simp [hs]) (by simp [hs, SlotState.inSequence])
    have hserv : (s.slot i).serving = false := by simp [Slot.serving, hs, SlotState.serving]
    have hfit : (((s.slot i).setPresent true).setState .offline).Fits false s.kill :=
      .of_rest ⟨⟨rfl, hf.lined.2.2.1, hf.recorded.2.1⟩, hf.not_live hserv (by simp [hs]), hf.awaits hserv⟩
        (hh.congr rfl rfl rfl rfl rfl) (.inl rfl) rfl hd ho ha
    have hmod : (s.modSlot i fun p =>
        if p.seq.state = .empty then (p.setPresent true).setState .offline else p.setPresent true) =
        s.modSlot i fun p => (p.setPresent true).setState .offline :=
      State.modSlot_congr (by simp [hs])
    rw [hmod]
    have hc := s.modSlot_calm i (f := fun p => (p.setPresent true).setState .offline) hcalm
    refine ⟨(h.steady.modSlot hcalm.mild hfit rfl).sound (h.busy_of_calm hc fun hr j => ?_), hc.debt⟩
    rw [State.slot_modSlot]
    split
    · exact .inl rfl
    · exact (h.busy.2 hr).2 j

end Sys2Proof.Machine

/-! SUPPORT. KILL_ASSERT and TICK_END keep a sound state sound and what the host is owed. -/

namespace Sys2Proof.Machine

variable {s t u : State} {i : SlotId} {idle killed : SlotId → Bool}

/-! ### Every slot in its turn -/

/-- Every slot takes its turn. -/
theorem mem_slotOrder (order : List SlotId) (i : SlotId) : i ∈ slotOrder order := by
  unfold slotOrder
  by_cases h : i ∈ order
  · exact List.mem_append_left _ (List.mem_dedup.2 h)
  · refine List.mem_append_right _ (List.mem_filter.2 ⟨?_, by simpa using h⟩)
    cases i <;> simp [SlotId.all]

/-- Every slot fits its state, each as far as it has taken its turn. -/
structure State.FitsAll (idle killed : SlotId → Bool) (s : State) : Prop where
  fits : ∀ j, (s.slot j).Fits (idle j) (killed j)
  grants : ∀ j, s.GrantOk j
  rails : ∀ r, s.RailOk r

/-- The slot whose turn it is may be put to more. -/
theorem State.FitsAll.but (h : s.FitsAll idle killed) {idle' killed' : SlotId → Bool}
    (hi : ∀ j, j ≠ i → idle' j = idle j) (hk : ∀ j, j ≠ i → killed' j = killed j) (hs : killed' i = true → s.kill = true) :
    s.FitsBut idle' killed' i :=
  ⟨fun j hj => by rw [hi j hj, hk j hj]; exact h.fits j, fun j _ => h.grants j, h.rails, hs⟩

theorem State.FitsAt.all (h : s.FitsAt idle killed i) (hi : idle i = false) : s.FitsAll idle killed where
  fits j := by
    by_cases hj : j = i
    · subst hj; rw [hi]; exact h.slot
    · exact h.but.others j hj
  grants j := by
    by_cases hj : j = i
    · exact hj ▸ h.grant
    · exact h.but.grants j hj
  rails := h.but.rails

/-! ### KILL_ASSERT -/

/-- A slot out of service stands KILL. -/
theorem Slot.Fits.out_of {p : Slot} {d k k' : Bool} (h : p.Fits d k) (hs : p.serving = false)
    (hr : p.seq.state ≠ .recovering) : p.Fits d k' := { h with out := fun _ => ⟨hs, hr⟩ }

/-- The slot that takes KILL's assertion leaves service and RECOVERING. -/
theorem State.FitsBut.takeKill (h : s.FitsBut idle killed i) (hf : (s.slot i).Fits false false) (hg : s.GrantOk i) :
    (s.takeKill i).FitsAt idle killed i := by
  have hadd : Slot.Fits false false ((s.slot i).addFurther .external) :=
    hf.of_queues (Slot.addFurther_control _ _) (by simp) (by simp)
  have hslot : (s.modSlot i fun p => p.addFurther .external).slot i = (s.slot i).addFurther .external := by simp
  have hab : (s.slot i).seq.state.inSequence = true →
      ((s.modSlot i fun p => p.addFurther .external).abort i).FitsAt idle killed i := fun hs =>
    (h.modSlot _).abort (hslot ▸ hadd.weaken) (by rw [hslot]; simpa using hs)
  have hrest : (s.slot i).serving = false → (s.slot i).seq.state ≠ .recovering → s.FitsAt idle killed i := fun h1 h2 =>
    ⟨h, hf.out_of h1 h2, hg⟩
  unfold State.takeKill
  cases hs : (s.slot i).seq.state with
  | online => exact h.trip hf hg (Slot.serving_iff.2 (.inl hs)) _ _ _
  | probation => exact h.trip hf hg (Slot.serving_iff.2 (.inr hs)) _ _ _
  | draining | recovering => exact hab (by simp [hs, SlotState.inSequence])
  | fenced =>
    refine ⟨h.modSlot _, ?_, ?_⟩
    · rw [hslot]
      exact hadd.out_of (by simp [Slot.serving, hs, SlotState.serving]) (by simp [hs])
    · simpa [State.GrantOk] using hg
  | offline | retired | empty => exact hrest (by simp [Slot.serving, hs, SlotState.serving]) (by simp [hs])

@[simp] theorem State.takeKill_kill (s : State) (i : SlotId) : (s.takeKill i).kill = s.kill := (s.takeKill_quiet i).kill

/-- Every slot in a list takes KILL's assertion. -/
theorem State.FitsAll.foldl_takeKill (l : List SlotId) : ∀ {s : State} {killed : SlotId → Bool},
    s.FitsAll (fun _ => false) killed → s.kill = true →
    (l.foldl State.takeKill s).FitsAll (fun _ => false) fun j => killed j || decide (j ∈ l) := by
  induction l with
  | nil => intro s killed h _; simpa using h
  | cons i is ih =>
    intro s killed h hk
    have hat : (s.takeKill i).FitsAt (fun _ => false) (fun j => killed j || decide (j = i)) i :=
      State.FitsBut.takeKill (h.but (fun _ _ => rfl) (fun j hj => by simp [hj]) fun _ => hk) (h.fits i).unkilled (h.grants i)
    have hrest := ih (hat.all rfl) (by simpa using hk)
    simpa [Bool.or_assoc] using hrest

/-- KILL's assertion is nothing to slots that are OFFLINE or EMPTY. -/
theorem State.foldl_takeKill_idle (l : List SlotId) {s : State}
    (h : ∀ j, (s.slot j).seq.state = .offline ∨ (s.slot j).seq.state = .empty) : l.foldl State.takeKill s = s := by
  induction l with
  | nil => rfl
  | cons i is ih =>
    have hi : s.takeKill i = s := by
      unfold State.takeKill
      obtain hs | hs := h i <;> rw [hs]
    rw [List.foldl_cons, hi, ih]

theorem State.Calm.still_of_kill {b : Bool} (h : State.Calm { s with kill := b } t) : s.Still t :=
  .trans (t := { s with kill := b }) ⟨fun _ => Slot.Calm.mild (.refl _), rfl, rfl, rfl, id, id⟩ h.still

theorem execKillAssert_kept (h : s.Sound) (order : List SlotId) : s.KeptBy (execKillAssert order s) := by
  unfold execKillAssert
  split
  · exact h.kept.by
  · next hk =>
    refine State.Kept.by ?_
    have hk : s.kill = false := by simpa using hk
    have hraise := State.raiseKill_calm { s with kill := true }
    have hcalm := hraise.trans (State.foldl_calm ({ s with kill := true } : State).raiseKill
      (fun u j => u.takeKill_calm j) (slotOrder order))
    have hslot : ∀ j, ({ s with kill := true } : State).raiseKill.slot j = s.slot j := fun j => by
      rw [State.slot_raiseKill]; rfl
    have hrail : ∀ r, ({ s with kill := true } : State).raiseKill.rail r = s.rail r := fun r =>
      (State.rail_raiseKill _ r).trans (by cases r <;> rfl)
    have hall : ({ s with kill := true } : State).raiseKill.FitsAll (fun _ => false) fun _ => false := by
      refine ⟨fun j => ?_, h.steady.grants_of_same hrail fun j => by rw [hslot], h.steady.rails_of_same hrail⟩
      rw [hslot]; exact (h.steady.fits j).unkilled
    have hend := hall.foldl_takeKill (slotOrder order) (by simp)
    refine ⟨(h.steady.of_still hcalm.still_of_kill (fun j => ?_) hend.grants hend.rails).sound ?_,
      hcalm.still_of_kill.debt⟩
    · rw [hcalm.quiet.kill]
      simpa [mem_slotOrder] using hend.fits j
    · refine h.busy.of_owes (by rw [hcalm.quiet.mailbox]) hcalm.quiet.resetScope fun hr j => ?_
      rw [State.foldl_takeKill_idle _ fun j => by rw [hslot]; exact (h.busy.2 hr).2 j, hslot]
      exact ⟨(h.busy.2 hr).2 j, id⟩

/-! ### TICK_END -/

@[simp] theorem tickTimer_isSome (t : UnitTimer) : (tickTimer t).isSome = t.isSome := by cases t <;> rfl

theorem Slot.tickStall_calm (p : Slot) : p.Calm p.tickStall := by
  unfold Slot.tickStall
  split
  · exact .of_detect fun ⟨h1, h2, h3⟩ => ⟨h1, (Nat.sub_le ..).trans h2, h3⟩
  · exact .refl p

theorem Slot.tickStall_control (p : Slot) : p.SameControl p.tickStall := by
  unfold Slot.tickStall
  split
  · exact .of_fields
  · exact .refl p

theorem Slot.tick_calm (p : Slot) : p.Calm p.tick := by
  unfold Slot.tick
  dsimp only
  split
  · exact p.tickStall_calm
  · exact p.tickStall_calm.trans .of_eq

theorem Slot.tick_control (p : Slot) : p.SameControl p.tick := by
  unfold Slot.tick
  dsimp only
  split
  · exact p.tickStall_control
  · exact p.tickStall_control.trans
      (.of_eq (h7 := by simp [Sequencer.tick]) (h8 := by simp [Sequencer.tick]))

@[simp] theorem Slot.tick_traffic (p : Slot) : p.tick.traffic = p.traffic := by
  unfold Slot.tick Slot.tickStall
  dsimp only
  split <;> split <;> rfl

/-- Every slot changes calmly, its control, its Send Queue and its ORT the same, and the part's settings in range. -/
theorem State.Sound.kept_slots (h : s.Sound) {f : Slot → Slot} (hc : ∀ p : Slot, p.Calm (f p))
    (hk : ∀ p : Slot, p.SameControl (f p)) (ht : ∀ p : Slot, (f p).traffic = p.traffic)
    (hslot : ∀ j, t.slot j = f (s.slot j)) (hr : ∀ r, t.rail r = s.rail r)
    (hrange : s.PartInRange → t.PartInRange) (h1 : t.head = s.head := by rfl) (h2 : t.saq = s.saq := by rfl)
    (h3 : t.waitingAnswer = s.waitingAnswer := by rfl) (h4 : t.presenting = s.presenting := by rfl)
    (h5 : t.notices = s.notices := by rfl) (h6 : t.kill = s.kill := by rfl) (h7 : t.mailbox = s.mailbox := by rfl)
    (h8 : t.resetScope = s.resetScope := by rfl) : s.Kept t := by
  have hstill : s.Still t :=
    ⟨fun j => by rw [hslot]; exact (hc _).mild, h1, h2, h3, by simp only [State.Presents, h3, h4, h5, imp_self], hrange⟩
  refine ⟨(h.steady.of_still hstill (fun j => ?_) ?_ (h.steady.rails_of_same hr)).sound ?_, hstill.debt⟩
  · rw [hslot, h6]
    exact (h.steady.fits j).of_queues (hk _) (by rw [ht]) (by rw [ht])
  · exact h.steady.grants_of_same hr fun j => by rw [hslot]; exact (hk _).phase
  · refine h.busy.of_owes (by rw [h7]) h8 fun hsome j => ⟨?_, ?_⟩
    · rw [hslot, (hk _).state]; exact (h.busy.2 hsome).2 j
    · rw [hslot]; simp only [Slot.nothingOwed, ht, imp_self]

theorem execTickEnd_kept (h : s.Sound) : s.KeptBy (execTickEnd s) := by
  refine State.Kept.by (h.kept_slots (f := Slot.tick) Slot.tick_calm Slot.tick_control Slot.tick_traffic
    (fun j => by simp [State.slot]) (fun r => by cases r <;> rfl) ?_)
  exact fun ⟨h1, h2, h3, h4, h5, h6⟩ => ⟨h1, h2, h3, h4, h5, (Nat.sub_le ..).trans h6⟩

end Sys2Proof.Machine

/-! SUPPORT. The Send Queues, the ORTs and the SAQ: departures, duplicate keys, the claims of containment and the card's
transactions, each keeping a sound state sound; what each does to the debt to the host. -/

namespace Sys2Proof.Machine

variable {s t u : State} {i : SlotId}

/-! ### What soundness does not look at -/

/-- Soundness and debt speak of these fields alone. -/
theorem State.Sound.of_same (h : s.Sound) (h1 : t.slots = s.slots := by rfl) (h2 : t.head = s.head := by rfl)
    (h3 : t.saq = s.saq := by rfl) (h4 : t.time = s.time := by rfl) (h5 : t.health = s.health := by rfl)
    (h6 : t.kill = s.kill := by rfl) (h7 : t.railA = s.railA := by rfl) (h8 : t.railB = s.railB := by rfl)
    (h9 : t.notices = s.notices := by rfl) (h10 : t.waitingAnswer = s.waitingAnswer := by rfl)
    (h11 : t.presenting = s.presenting := by rfl) (h12 : t.mailbox = s.mailbox := by rfl)
    (h13 : t.resetScope = s.resetScope := by rfl) (h14 : t.counters = s.counters := by rfl) : s.Kept t := by
  have hs : ∀ j, t.slot j = s.slot j := fun j => by rw [State.slot, h1]; rfl
  have hr := State.rail_of h7 h8
  have hstill : s.Still t :=
    ⟨fun j => by rw [hs]; exact (Slot.Calm.refl _).mild, h2, h3, h10, by simp only [State.Presents, h9, h10, h11, imp_self],
      by simp only [State.PartInRange, h14, h4, h5, imp_self]⟩
  refine ⟨(h.steady.of_still hstill (fun j => ?_) ?_ (h.steady.rails_of_same hr)).sound ?_, hstill.debt⟩
  · rw [hs, h6]; exact h.steady.fits j
  · exact h.steady.grants_of_same hr fun j => by rw [hs]
  · exact h.busy.of_owes (by rw [h12]) h13 fun hsome j => by rw [hs]; exact ⟨(h.busy.2 hsome).2 j, id⟩

theorem State.Kept.trans (h : s.Kept t) (k : t.Kept u) : s.Kept u := ⟨k.1, k.2.trans h.2⟩

theorem State.Kept.ite {c : Prop} [Decidable c] (ht : c → s.Kept t) (hu : ¬c → s.Kept u) :
    s.Kept (if c then t else u) := by
  split
  · next h => exact ht h
  · next h => exact hu h

/-! ### Serving slots -/

/-- The slot of a steady state, if it is serving, changes mildly, with the control the same. -/
theorem State.Sound.kept_serving (h : s.Sound) {f : Slot → Slot} (hs : (s.slot i).serving = true)
    (hm : (s.slot i).Mild (f (s.slot i))) (hk : (s.slot i).SameControl (f (s.slot i))) : s.Kept (s.modSlot i f) := by
  have hserv : (f (s.slot i)).serving = true := hk.serving.trans hs
  have hdr : (f (s.slot i)).seq.state ≠ .draining := fun hc => by simp [Slot.serving, hc, SlotState.serving] at hserv
  have hfit : (f (s.slot i)).Fits false s.kill :=
    (h.steady.fits i).of_same hk (fun _ => .inl hserv) (fun _ hd => absurd hd hdr) fun hn => by simp [hserv] at hn
  have hact := Slot.active_of_serving hs
  have hnone := h.busy.idle_of hact.1 hact.2
  refine ⟨(h.steady.modSlot hm hfit hk.phase).sound (h.busy.of_owes rfl rfl fun hr => ?_), ?_⟩
  · simp [hnone] at hr
  · exact State.Still.debt ⟨fun j => by
      rw [State.slot_modSlot]
      split
      · next hj => exact hj ▸ hm
      · exact (Slot.Calm.refl _).mild, rfl, rfl, rfl, id, id⟩

/-- A posted head departs. -/
theorem Slot.depart_mild (p : Slot) {tx : Transaction} (hq : p.traffic.sendQueue.head? = some tx)
    (hn : nonPosted tx = false) : p.Mild (p.depart tx) where
  data h := by
    have hk : (p.depart tx).counters.InRange := by
      obtain ⟨h1, h2⟩ := h.counters
      simp only [Slot.depart_eq]
      split
      · exact ⟨Nat.min_le_left .., h2⟩
      · exact ⟨h1, h2⟩
    have hd : (p.depart tx).detect.InRange := by
      obtain ⟨h1, -, h3⟩ := h.detect
      exact ⟨h1, h1.2.1, h3⟩
    exact ((h.with_traffic (tr := (p.depart tx).traffic) (by
      simp only [Slot.depart_eq, List.length_tail]
      exact (Nat.sub_le ..).trans h.bounded.1) h.bounded.2.1 (.refl _) (.refl _)).with_counters hk).with_detect hd
  debt := by
    obtain ⟨l, hl⟩ := List.head?_eq_some_iff.1 hq
    simp [Slot.debt, Slot.depart_eq, hl, hn]
  answering _ := rfl

/-- A non-posted head departs with its admission: what was owed from the Send Queue is owed from the ORT. -/
theorem Slot.admitEntry_mild (p : Slot) (now : Ticks) {tx : Transaction} (hq : p.traffic.sendQueue.head? = some tx)
    (ha : p.admissible tx = true) : p.Mild (p.admitEntry now tx) := by
  have hn : nonPosted tx = true := by
    simp only [Slot.admissible, Bool.and_eq_true] at ha
    exact ha.1.1
  obtain ⟨⟨r, t, q⟩, hx⟩ := (nonPosted_iff_entry tx).1 hn
  obtain ⟨hkey, -, -, -⟩ := entryRequestOf_some hx
  obtain ⟨hfree, hlen⟩ := (p.admissible_iff hkey).1 ha
  obtain ⟨hlt, hnum, -⟩ := freeNumber_spec _ hlen
  obtain ⟨l, hl⟩ := List.head?_eq_some_iff.1 hq
  rw [Slot.admitEntry_eq p now hx]
  refine ⟨fun h => ?_, ?_, fun n => ?_⟩
  · obtain ⟨⟨hb1, hb2, hb3, hb4⟩, ⟨hd1, hd2, hd3⟩, hr, hat⟩ := id h
    have hdata : ({ p with traffic := { p.traffic with
        sendQueue := p.traffic.sendQueue.tail
        linkSent := p.traffic.linkSent ++ [toLink tx]
        ort := p.traffic.ort ++ [
          { number := freeNumber p.traffic.ort, requester := r, tag := t, request := q, issueTime := now,
            deadline := now + BitVec.ofNat 32 (p.deadlines.allowance q.cls q.length), remaining := owedBytes tx,
            keepKey := true, state := .live }] } } : Slot).DataOk := by
      refine ⟨⟨?_, hb2, ?_, hb4⟩, ⟨?_, ?_, ?_⟩, hr, hat⟩
      · simp only [List.length_tail]; exact (Nat.sub_le ..).trans hb1
      · simp only [List.length_append, List.length_singleton]; exact hlen
      · rw [List.map_append, List.nodup_append]
        refine ⟨hd1, by simp, fun a ha b hb => ?_⟩
        obtain ⟨e, he, rfl⟩ := List.mem_map.1 ha
        simp only [List.map_cons, List.map_nil, List.mem_singleton] at hb
        subst hb
        intro hc
        simp only [Prod.mk.injEq] at hc
        exact hfree e he hc
      · rw [List.map_append, List.nodup_append]
        refine ⟨hd2, by simp, fun a ha b hb => ?_⟩
        obtain ⟨e, he, rfl⟩ := List.mem_map.1 ha
        simp only [List.map_cons, List.map_nil, List.mem_singleton] at hb
        subst hb
        exact hnum e he
      · intro e he
        rcases List.mem_append.1 he with he | he
        · exact hd3 e he
        · rw [List.mem_singleton.1 he]; exact hlt
    refine (hdata.with_counters ?_).with_detect ?_
    · obtain ⟨-, h2⟩ := h.counters
      exact ⟨Nat.min_le_left .., h2⟩
    · obtain ⟨h1, -, h3⟩ := h.detect
      exact ⟨h1, h1.2.1, h3⟩
  · simp only [Slot.debt, hl, List.tail_cons, List.countP_cons, hn, List.countP_append, List.countP_nil, Entry.owed,
      Entry.isLive]
    simp
    omega
  · simp [Slot.answeringAt]

theorem execSendQueueDeparture_kept (h : s.Sound) : s.KeptBy (execSendQueueDeparture i s) := by
  refine State.Kept.by ?_
  cases hq : (s.slot i).traffic.sendQueue.head? with
  | none => exact h.kept
  | some tx =>
    refine .ite (fun hc => ?_) fun _ => h.kept
    have hs := (Bool.and_eq_true_iff.1 hc).1
    refine .ite (fun _ => .ite (fun ha => ?_) fun _ => h.kept) fun hn => ?_
    · exact h.kept_serving hs (Slot.admitEntry_mild _ _ hq ha) (Slot.admitEntry_control _ _ _)
    · exact h.kept_serving hs (Slot.depart_mild _ hq (by simpa using hn)) (Slot.depart_control _ _)

/-! ### Items that join the SAQ -/

/-- One item joins the SAQ as one slot changes within its state and phase: the slot owes one answer less, and has one
ANSWERING entry more where the item names one. -/
structure State.Answers (s t : State) (i : SlotId) (item : SaqItem) : Prop where
  others : ∀ j, j ≠ i → t.slot j = s.slot j
  data : (t.slot i).DataOk
  fits : (t.slot i).Fits false s.kill
  phase : (t.slot i).seq.phase = (s.slot i).seq.phase
  state : (t.slot i).seq.state = (s.slot i).seq.state
  debt : (t.slot i).debt + 1 = (s.slot i).debt
  answering : ∀ n, (t.slot i).answeringAt n =
    (s.slot i).answeringAt n + if item.owner = some { slot := i, entry := n } then 1 else 0
  owner : ∀ o, item.owner = some o → o.slot = i
  same : t = { s with slots := t.slots, saq := s.saq ++ [item] }

theorem sum_slots_change {f g : SlotId → Nat} {i : SlotId} {a b : Nat} (h : ∀ j, j ≠ i → g j = f j)
    (hi : g i + a = f i + b) : g .s0 + g .s1 + g .s2 + g .s3 + a = f .s0 + f .s1 + f .s2 + f .s3 + b := by
  cases i
  · rw [h .s1 (by simp), h .s2 (by simp), h .s3 (by simp)]; omega
  · rw [h .s0 (by simp), h .s2 (by simp), h .s3 (by simp)]; omega
  · rw [h .s0 (by simp), h .s1 (by simp), h .s3 (by simp)]; omega
  · rw [h .s0 (by simp), h .s1 (by simp), h .s2 (by simp)]; omega

/-- The part's debt is the head's, the slots', the SAQ's and the waiting answer's. -/
def State.otherDebt (s : State) : Nat :=
  (match s.head with
    | some h => if nonPosted h.tx then 1 else 0
    | none => 0) + s.saq.length + (if s.waitingAnswer.isSome then 1 else 0)

theorem State.debt_eq (s : State) : s.debt =
    (s.slot .s0).debt + (s.slot .s1).debt + (s.slot .s2).debt + (s.slot .s3).debt + s.otherDebt := by
  cases hh : s.head <;> simp only [State.debt, State.otherDebt, hh] <;> omega

namespace State.Answers

variable {item : SaqItem}

theorem mailbox_eq (h : s.Answers t i item) : t.mailbox = s.mailbox := by rw [h.same]
theorem resetScope_eq (h : s.Answers t i item) : t.resetScope = s.resetScope := by rw [h.same]

theorem steady (h : s.Answers t i item) (hs : s.Steady) (hroom : s.saqRoom = true) : t.Steady := by
  have hk : t.kill = s.kill := by rw [h.same]
  have hsaq : t.saq = s.saq ++ [item] := by rw [h.same]
  have hr : ∀ r, t.rail r = s.rail r := State.rail_of (by rw [h.same]) (by rw [h.same])
  refine ⟨fun j => ?_, hs.fits_of_same hk h.others h.fits, hs.grants_of_same hr fun j => ?_, hs.rails_of_same hr, ?_,
    fun j n => ?_, ?_, ?_, ?_⟩
  · by_cases hj : j = i
    · exact hj ▸ h.data
    · rw [h.others j hj]; exact hs.data j
  · by_cases hj : j = i
    · exact hj ▸ h.phase
    · rw [h.others j hj]
  · rw [hsaq, List.length_append]
    exact of_decide_eq_true hroom
  · rw [hsaq, List.countP_append, hs.owners]
    by_cases hj : j = i
    · subst hj
      rw [h.answering]
      simp [List.countP_cons]
    · rw [h.others j hj]
      have hne : item.owner ≠ some { slot := j, entry := n } := fun hc => hj (h.owner _ hc)
      simp [hne]
  · rw [h.same]; exact hs.head
  · rw [h.same]; exact hs.presents
  · rw [h.same]; exact hs.ranges

theorem debt_eq (h : s.Answers t i item) : t.debt = s.debt := by
  have ho : t.otherDebt = s.otherDebt + 1 := by
    rw [h.same]
    simp only [State.otherDebt, List.length_append, List.length_singleton]
    omega
  rw [State.debt_eq, State.debt_eq, ho]
  have hsum := sum_slots_change (f := fun j => (s.slot j).debt) (g := fun j => (t.slot j).debt) (a := 1) (b := 0)
    (fun j hj => by simp only [h.others j hj]) h.debt
  omega

end State.Answers

/-! ### The end of a management reset -/

@[simp] theorem State.slot_restoreTables (s : State) (j : SlotId) :
    s.restoreTables.slot j = (s.slot j).restoreDefaults := by
  simp [State.restoreTables, State.slot]

theorem Plan.default_usable (p : Slot) : p.PlanUsable Plan.default := by
  refine ⟨⟨fun l => ?_, by simp [Plan.default], ?_⟩, ?_, by simp [Plan.default]⟩
  · cases l <;> decide
  · decide
  · cases p.lines.powerControl <;> rfl

theorem Slot.restoreDefaults_calm (p : Slot) : p.Calm p.restoreDefaults := by
  refine .of_traffic rfl fun h => ⟨?_, h.distinct, ?_, h.attempts⟩
  · obtain ⟨⟨h1, h2, h3, -⟩, -⟩ := h
    exact ⟨h1, h2, h3, Nat.zero_le _, Nat.zero_le _⟩
  · obtain ⟨-, -, ⟨-, -, -, -, -, -, h7, h8, h9, h10, h11, -, h13, h14⟩, -⟩ := h
    exact ⟨(by decide : Limits.memDefault.InRange), (by decide : Limits.cfgDefault.InRange), rfl, Estimator.zero_inRange,
      Estimator.zero_inRange, (by decide : MonitorRecord.default.InRange), h7, h8, h9, h10, h11, Plan.default_usable _, h13, h14⟩

theorem Slot.restoreDefaults_control (p : Slot) : p.SameControl p.restoreDefaults := .of_eq

theorem State.restoreTables_still (s : State) : s.Still s.restoreTables where
  slots j := by rw [State.slot_restoreTables]; exact (Slot.restoreDefaults_calm _).mild
  head := by simp [State.restoreTables]
  saq := by simp [State.restoreTables]
  waitingAnswer := by simp [State.restoreTables]
  presents h := State.withdrawNotice_presents h.1
  ranges h := by
    obtain ⟨h1, h2, h3, -, -, h6⟩ := h
    simp only [State.PartInRange, State.restoreTables, State.withdrawNotice_counters, State.withdrawNotice_time,
      State.withdrawNotice_health]
    exact ⟨h1, h2, h3, by decide, by decide, h6⟩

theorem State.Steady.restoreTables (h : s.Steady) : s.restoreTables.Steady := by
  have hr : ∀ r, s.restoreTables.rail r = s.rail r := State.rail_of (by simp [State.restoreTables]) (by simp [State.restoreTables])
  refine h.of_still s.restoreTables_still (fun j => ?_) (h.grants_of_same hr fun j => ?_) (h.rails_of_same hr)
  · rw [State.slot_restoreTables, show s.restoreTables.kill = s.kill by simp [State.restoreTables]]
    exact (h.fits j).of_queues (Slot.restoreDefaults_control _) rfl rfl
  · rw [State.slot_restoreTables]; rfl

/-- The mailbox does not matter to a steady state. -/
theorem State.Steady.with_mailbox (h : s.Steady) (m : Mailbox) : ({ s with mailbox := m } : State).Steady :=
  ⟨h.data, h.fits, h.grants, h.rails, h.saq, h.owners, h.head, h.presents, h.ranges⟩

/-- The end of a management reset leaves a sound state that owes the same. -/
theorem State.Steady.endReset (h : s.Steady) : s.Kept s.endReset := by
  refine ⟨(h.restoreTables.with_mailbox _).sound (.of_none ?_ ?_), s.restoreTables_still.debt⟩
  · simp [State.restoreTables]
  · exact fun hc => by cases hc

/-- A steady state in which a reset in progress may have ended, with every slot out of service. -/
theorem State.Steady.settleReset (h : s.Steady) (hm : s.mailbox.state = .busy ↔ s.resetScope.isSome = true)
    (hi : s.resetScope.isSome = true → ∀ j, (s.slot j).seq.state = .offline ∨ (s.slot j).seq.state = .empty) :
    s.Kept s.settleReset := by
  unfold State.settleReset
  split
  · exact h.endReset
  · next ho => exact ⟨h.sound ⟨hm, fun hr => ⟨by simpa using ho, hi hr⟩⟩, rfl⟩

theorem execResetPartEnd_kept (h : s.Sound) : s.KeptBy (execResetPartEnd s) :=
  (h.steady.settleReset h.busy.1 fun hr => (h.busy.2 hr).2).by

/-- An item that joins the SAQ in an event that may end a reset in progress. -/
theorem State.Sound.kept_answers {item : SaqItem} (h : s.Sound) (ha : s.Answers t i item) (hroom : s.saqRoom = true) :
    s.Kept t.settleReset := by
  have hk := (ha.steady h.steady hroom).settleReset (by rw [ha.mailbox_eq, ha.resetScope_eq]; exact h.busy.1) fun hr j => by
    rw [ha.resetScope_eq] at hr
    by_cases hj : j = i
    · subst hj; rw [ha.state]; exact (h.busy.2 hr).2 j
    · rw [ha.others j hj]; exact (h.busy.2 hr).2 j
  exact ⟨hk.1, hk.2.trans ha.debt_eq⟩

/-! ### The claims of containment -/

theorem Slot.popSend_data {p : Slot} (h : p.DataOk) : p.popSend.DataOk :=
  h.with_traffic (tr := p.popSend.traffic) (by
    simp only [Slot.popSend, List.length_tail]
    exact (Nat.sub_le ..).trans h.bounded.1) h.bounded.2.1 (.refl _) (.refl _)

theorem Slot.popSend_debt {p : Slot} {tx : Transaction} (hq : p.traffic.sendQueue.head? = some tx)
    (hn : nonPosted tx = true) : p.popSend.debt + 1 = p.debt := by
  obtain ⟨l, hl⟩ := List.head?_eq_some_iff.1 hq
  simp only [Slot.debt, Slot.popSend, hl, List.tail_cons, List.countP_cons, hn, if_true]
  omega

/-- A contained slot fits its state whatever leaves its Send Queue, so long as no posted head is left. -/
theorem Slot.Fits.of_contained {p q : Slot} {d k : Bool} (h : p.Fits d k) (hk : p.SameControl q)
    (ho : q.traffic.ort = p.traffic.ort) (hw : q.HeadAwaits) : q.Fits d k := by
  have hlive : q.liveCount = p.liveCount := by rw [Slot.liveCount, ho]; rfl
  refine h.of_same hk ?_ ?_ fun _ => hw
  · rw [hlive, hk.serving, hk.state]; exact h.live
  · rw [hlive, hk.state]; exact h.drains

theorem Slot.containmentItem_owner {p : Slot} {tx : Transaction} {item : SaqItem} (h : p.containmentItem tx = some item) :
    item.owner = none ∧ nonPosted tx = true := by
  obtain ⟨k, hk, rfl⟩ := Option.map_eq_some_iff.1 h
  exact ⟨rfl, (nonPosted_iff_key tx).2 ⟨k, hk⟩⟩

/-- The claim of a Send Queue's head. -/
theorem State.Sound.kept_answerQueued (h : s.Sound) (i : SlotId) : s.Kept (s.answerQueued i) := by
  unfold State.answerQueued
  cases hq : (s.slot i).traffic.sendQueue.head? with
  | none => exact h.kept
  | some tx =>
    refine .ite (fun hc => ?_) fun _ => h.kept
    obtain ⟨hserv, hroom⟩ := Bool.and_eq_true_iff.1 hc
    cases hi : (s.slot i).containmentItem tx with
    | none => exact h.kept
    | some item =>
      obtain ⟨howner, hn⟩ := Slot.containmentItem_owner hi
      let q := (s.slot i).popSend.countSynthetic
      have hcalm := (s.slot i).popSend.countSynthetic_calm.trans q.dropPosted_calm
      have hk : (s.slot i).SameControl q.dropPosted := by
        have hpop : (s.slot i).SameControl (s.slot i).popSend := .of_eq
        exact hpop.trans ((Slot.countSynthetic_control _).trans (Slot.dropPosted_control _))
      have ho : q.dropPosted.traffic.ort = (s.slot i).traffic.ort := by
        show (s.slot i).popSend.countSynthetic.traffic.ort = _
        rw [Slot.countSynthetic_traffic]; rfl
      have hslot : (((s.appendOwed i item).modSlot i fun p => p.popSend.countSynthetic.dropPosted).slot i) = q.dropPosted := by
        rw [State.slot_modSlot_same]; rfl
      refine h.kept_answers (item := { item with ofReset := s.resetWaitsFor i }) (i := i)
        ⟨fun j hj => ?_, ?_, ?_, ?_, ?_, ?_, fun n => ?_, fun o ho => ?_, rfl⟩ hroom
      · rw [State.slot_modSlot_ne _ _ _ _ hj]; rfl
      · rw [hslot]; exact hcalm.data (Slot.popSend_data (h.steady.data i))
      · rw [hslot]; exact (h.steady.fits i).of_contained hk ho q.dropPosted_headAwaits
      · rw [hslot]; exact hk.phase
      · rw [hslot]; exact hk.state
      · rw [hslot, hcalm.debt]; exact Slot.popSend_debt hq hn
      · rw [hslot]
        simp only [Slot.answeringAt, ho, howner]
        simp
      · simp [howner] at ho

theorem execContainmentQueueAnswer_kept (h : s.Sound) : s.KeptBy (execContainmentQueueAnswer i s) :=
  (h.kept_answerQueued i).by

/-! ### FENCED entries -/

theorem updateFirst_countP_of_find {α : Type} {p q : α → Bool} {f : α → α} {l : List α} {e : α} (h : l.find? p = some e) :
    (updateFirst p f l).countP q + (if q e then 1 else 0) = l.countP q + if q (f e) then 1 else 0 := by
  obtain ⟨he, older, younger, rfl, hold⟩ := List.find?_eq_some_iff_append.1 h
  rw [updateFirst_split _ _ _ _ _ (fun x hx => by simpa using hold x hx) he]
  simp only [List.countP_append, List.countP_cons]
  omega

/-- The claim of a slot's oldest FENCED entry. -/
theorem State.Sound.kept_answerFenced (h : s.Sound) (i : SlotId) : s.Kept (s.answerFenced i) := by
  unfold State.answerFenced
  cases he : (s.slot i).traffic.ort.find? Entry.isFenced with
  | none => exact h.kept
  | some e =>
    refine .ite (fun hroom => ?_) fun _ => h.kept
    have hf : e.state = .fenced := by simpa [Entry.isFenced] using List.find?_some he
    let q : Slot := { s.slot i with traffic := { (s.slot i).traffic with
      ort := updateFirst Entry.isFenced (fun x => { x with state := .answering }) (s.slot i).traffic.ort } }
    have hk : (s.slot i).SameControl q.countSynthetic :=
      .trans (q := q) .of_fields (Slot.countSynthetic_control _)
    have hlive : q.liveCount = (s.slot i).liveCount := by
      have hc := updateFirst_countP_of_find (q := Entry.isLive) (f := fun x : Entry => { x with state := .answering }) he
      simp [Entry.isLive, hf] at hc
      exact hc
    have hslot : ((s.appendOwed i ((s.slot i).entryItem i e)).modSlot i fun p =>
        { p with traffic := { p.traffic with
            ort := updateFirst Entry.isFenced (fun x => { x with state := .answering }) p.traffic.ort } }.countSynthetic).slot
        i = q.countSynthetic := by
      rw [State.slot_modSlot_same]; rfl
    refine h.kept_answers (item := { (s.slot i).entryItem i e with ofReset := s.resetWaitsFor i }) (i := i)
      ⟨fun j hj => ?_, ?_, ?_, ?_, ?_, ?_, fun n => ?_, fun o ho => ?_, rfl⟩ hroom
    · rw [State.slot_modSlot_ne _ _ _ _ hj]; rfl
    · rw [hslot]
      refine q.countSynthetic_calm.data ((h.steady.data i).with_ort ?_ ?_)
      · rw [updateFirst_map_eq fun _ => by rfl]
      · rw [updateFirst_map_eq fun _ => by rfl]
    · rw [hslot]
      have hl : q.countSynthetic.liveCount = (s.slot i).liveCount := by
        rw [Slot.liveCount, Slot.countSynthetic_traffic]; exact hlive
      refine (h.steady.fits i).of_same hk ?_ ?_ ?_
      · rw [hl, hk.serving, hk.state]; exact (h.steady.fits i).live
      · rw [hl, hk.state]; exact (h.steady.fits i).drains
      · simp only [Slot.NoPostedHead, hk.serving, Slot.countSynthetic_traffic]
        exact (h.steady.fits i).awaits
    · rw [hslot]; exact hk.phase
    · rw [hslot]; exact hk.state
    · rw [hslot, q.countSynthetic_calm.debt]
      have hc := updateFirst_countP_of_find (q := Entry.owed) (f := fun x : Entry => { x with state := .answering }) he
      simp [Entry.owed, Entry.isLive, Entry.isFenced, hf] at hc
      simp only [Slot.debt, q]
      omega
    · rw [hslot, q.countSynthetic_calm.answering]
      have hc := updateFirst_countP_of_find (q := fun x : Entry => x.number == n && x.state == .answering)
        (f := fun x : Entry => { x with state := .answering }) he
      simp only [hf, beq_self_eq_true, Bool.and_true] at hc
      simpa [Slot.answeringAt, q, Slot.entryItem] using hc
    · simp only [Slot.entryItem, Option.some.injEq] at ho
      rw [← ho]

theorem execFencedEntryAnswer_kept (h : s.Sound) : s.KeptBy (execFencedEntryAnswer i s) := (h.kept_answerFenced i).by

theorem State.Sound.kept_meetClaim (h : s.Sound) : s.Kept s.meetClaim := by
  unfold State.meetClaim
  split
  · exact h.kept
  · exact .ite (fun _ => h.kept_answerFenced _) fun _ => h.kept_answerQueued _

theorem State.Sound.kept_meetClaims (n : Nat) : ∀ {s : State}, s.Sound → s.Kept (State.meetClaims n s) := by
  induction n with
  | zero => exact fun h => h.kept
  | succ n ih =>
    intro s h
    unfold State.meetClaims
    refine .ite (fun _ => ?_) fun _ => h.kept
    exact h.kept_meetClaim.trans (ih h.kept_meetClaim.1)

theorem State.Sound.kept_beforeSyn (h : s.Sound) : s.Kept s.beforeSyn := by
  unfold State.beforeSyn
  split
  · exact h.kept
  · exact .ite (fun _ => h.kept_meetClaims _) fun _ => h.kept

/-! ### Duplicate keys -/

theorem execDuplicateKeyDisposal_kept (h : s.Sound) : s.KeptBy (execDuplicateKeyDisposal i s) := by
  unfold execDuplicateKeyDisposal
  refine State.Kept.by ?_
  cases hq : (s.slot i).traffic.sendQueue.head? with
  | none => exact h.kept
  | some tx =>
    refine .ite (fun hc => ?_) fun _ => h.kept
    simp only [Bool.and_eq_true] at hc
    obtain ⟨⟨hserv, hdup⟩, hroom⟩ := hc
    cases hi : unsupportedItem tx with
    | none => exact h.kept
    | some item =>
      have hn : nonPosted tx = true := by
        cases hn : nonPosted tx
        · simp [unsupportedItem_none hn] at hi
        · rfl
      have howner : item.owner = none := by
        obtain ⟨k, -, rfl⟩ := Option.map_eq_some_iff.1 hi
        rfl
      have hk : (s.slot i).SameControl (s.slot i).popSend.countDuplicate := .of_eq
      have hact := Slot.active_of_serving hserv
      have hslot : ((s.appendSaq item).modSlot i fun p => p.popSend.countDuplicate).slot i =
          (s.slot i).popSend.countDuplicate := by rw [State.slot_modSlot_same]; rfl
      have ha : s.Answers ((s.appendSaq item).modSlot i fun p => p.popSend.countDuplicate) i item := by
        refine ⟨fun j hj => ?_, ?_, ?_, ?_, ?_, ?_, fun n => ?_, fun o ho => ?_, rfl⟩
        · rw [State.slot_modSlot_ne _ _ _ _ hj]; rfl
        · rw [hslot]; exact (Slot.countDuplicate_calm _).data (Slot.popSend_data (h.steady.data i))
        · rw [hslot]
          refine (h.steady.fits i).of_same hk (fun _ => .inl (hk.serving.trans hserv)) (fun _ hd => ?_) fun hx => ?_
          · simp [Slot.serving, show (s.slot i).seq.state = .draining from hd, SlotState.serving] at hserv
          · exact absurd (hk.serving.trans hserv) (by simp [hx])
        · rw [hslot]; rfl
        · rw [hslot]; rfl
        · rw [hslot, (Slot.countDuplicate_calm _).debt]; exact Slot.popSend_debt hq hn
        · rw [hslot]
          simp [howner]
          rfl
        · simp [howner] at ho
      refine ⟨(ha.steady h.steady hroom).sound (h.busy.of_owes rfl rfl fun hr => ?_), ha.debt_eq⟩
      simp [h.busy.idle_of hact.1 hact.2] at hr

end Sys2Proof.Machine

/-! SUPPORT. A card's transactions and the executor's answers: RECEIVE_QUEUE_TAKE and SLOT_LINK_RECEIVE keep a sound state
sound, and lower the debt to the host by one only as an answer is staged. -/

namespace Sys2Proof.Machine

variable {s t u : State} {i : SlotId}

/-! ### The executor's answers -/

theorem execSlotLinkReceive_kept (h : s.Sound) (tx : Transaction) : s.KeptBy (execSlotLinkReceive i tx s) := by
  refine h.kept_ite fun hlen => h.kept_same ?_ .of_eq rfl rfl
  refine ⟨fun hd => hd.with_traffic hd.bounded.1 ?_ (.refl _) (.refl _), rfl, fun _ => rfl, fun ho => ⟨ho, id⟩⟩
  simp only [List.length_append, List.length_singleton]
  exact hlen

/-- The access in flight is answered. -/
theorem Slot.Fits.clear_inFlight {p : Slot} {d k : Bool} (h : p.Fits d k) :
    ({ p with exec := { p.exec with inFlight := none } } : Slot).Fits d k := by
  obtain ⟨⟨s1, s2, s3, s4, s5, -, s7, s8⟩, h2, h3, h4, h5, h6, h7, h8⟩ := h
  exact ⟨⟨s1, s2, s3, s4, s5, fun hc => absurd hc (by simp), s7, s8⟩, h2, h3, h4, h5, h6, h7, h8⟩

theorem State.Sound.kept_clear_inFlight (h : s.Sound) (i : SlotId) :
    s.Kept (s.modSlot i fun p => { p with exec := { p.exec with inFlight := none } }) :=
  h.kept_modSlot .of_eq (h.steady.fits i).clear_inFlight rfl rfl

theorem State.Sound.kept_resetWriteAnswer (h : s.Sound) (hs : (s.slot i).seq.state = .recovering)
    (hp : (s.slot i).seq.phase = some .functionReset) (st : Status) : s.Kept (s.resetWriteAnswer i st) := by
  cases st with
  | ok => exact h.kept_active (s.enterSettle_calm i) (h.steady.enterSettle hs hp) (Slot.active_of hs)
  | retry => exact h.kept_same .of_eq .of_eq rfl rfl
  | abort | unsupported => exact h.failAttempt hs

theorem State.Sound.kept_passStep (h : s.Sound) (hs : (s.slot i).seq.state = .recovering)
    (hp : (s.slot i).seq.phase = some .restoring) : s.Kept (s.passStep i) :=
  h.kept_active (s.passStep_calm i) (h.steady.passStep hs hp) (Slot.active_of hs)

theorem State.Sound.kept_readDword (h : s.Sound) (data : List Byte) : s.Kept (s.readDword data).2 := by
  unfold State.readDword
  split
  · exact h.kept
  · exact h.of_same

@[simp] theorem State.readDword_slot (s : State) (data : List Byte) (j : SlotId) :
    (s.readDword data).2.slot j = s.slot j := by
  unfold State.readDword
  split <;> rfl

theorem State.Sound.kept_stepAnswer (h : s.Sound) (hs : (s.slot i).seq.state = .recovering)
    (hp : (s.slot i).seq.phase = some .restoring) (st : Status) (data : List Byte) : s.Kept (s.stepAnswer i st data) := by
  have hr := h.kept_readDword data
  have hrs : ((s.readDword data).2.slot i).seq.state = .recovering := by rw [State.readDword_slot]; exact hs
  have hrp : ((s.readDword data).2.slot i).seq.phase = some .restoring := by rw [State.readDword_slot]; exact hp
  unfold State.stepAnswer
  cases (s.slot i).currentStep with
  | none => exact h.kept
  | some step =>
    cases st with
    | abort | unsupported => exact h.failAttempt hs
    | retry =>
      refine h.kept_same ?_ ?_ ?_ ?_
      · cases step <;> exact .of_eq
      · cases step <;> exact .of_eq
      · cases step <;> rfl
      · cases step <;> rfl
    | ok =>
      cases step with
      | write => exact h.kept_passStep hs hp
      | pause => exact h.kept
      | verify _ mask expected =>
        exact .ite (fun _ => hr.trans (hr.1.kept_passStep hrs hrp)) fun _ => hr.trans (hr.1.failAttempt hrs)
      | poll _ mask expected _ =>
        exact .ite (fun _ => hr.trans (hr.1.kept_passStep hrs hrp)) fun _ => hr.trans (hr.1.kept_same .of_eq .of_eq rfl rfl)

theorem State.Sound.kept_executorAnswer (h : s.Sound) (i : SlotId) (t : Tag) (st : Status) (data : List Byte) :
    s.Kept (s.executorAnswer i t st data) := by
  unfold State.executorAnswer
  split
  · exact h.kept
  · refine .ite (fun _ => ?_) fun _ => h.kept
    have hu := h.kept_clear_inFlight i
    have hrec : ∀ {ph : Phase}, (s.slot i).seq.phase = some ph → (s.slot i).seq.state = .recovering := fun hp =>
      (h.sequenced.1 i).1.1 (by rw [hp]; rfl)
    dsimp only
    split
    · next hp => exact hu.trans (hu.1.kept_resetWriteAnswer (by simpa using hrec hp) (by simpa using hp) st)
    · next hp => exact hu.trans (hu.1.kept_stepAnswer (by simpa using hrec hp) (by simpa using hp) st data)
    · exact hu

/-! ### Answers for the ORT -/

/-- What the taking of a card's answer does to a slot, its debt aside: the control is the same, nothing goes out of range,
no entry enters or leaves ANSWERING or FENCED, none becomes LIVE but in a serving slot, whose Send Queue alone moves. -/
structure Slot.Follows (p q : Slot) : Prop where
  control : p.SameControl q
  data : p.DataOk → q.DataOk
  answering : ∀ n, q.answeringAt n = p.answeringAt n
  live : 0 < q.liveCount → 0 < p.liveCount ∨ p.serving = true
  queue : p.serving = false → q.traffic.sendQueue = p.traffic.sendQueue
  fenced : p.traffic.ort.any Entry.isFenced = true → q.traffic.ort.any Entry.isFenced = true

namespace Slot.Follows

variable {p q r : Slot}

theorem refl (p : Slot) : p.Follows p := ⟨.refl p, id, fun _ => rfl, .inl, fun _ => rfl, id⟩

theorem trans (h : p.Follows q) (k : q.Follows r) : p.Follows r where
  control := h.control.trans k.control
  data := k.data ∘ h.data
  answering n := (k.answering n).trans (h.answering n)
  live hr := (k.live hr).elim h.live fun hs => .inr (h.control.serving ▸ hs)
  queue hs := (k.queue (h.control.serving.trans hs)).trans (h.queue hs)
  fenced := k.fenced ∘ h.fenced

/-- An operation that keeps the control, the Send Queue and the ORT. -/
theorem of_same (hk : p.SameControl q) (hd : p.DataOk → q.DataOk)
    (hq : q.traffic.sendQueue = p.traffic.sendQueue := by simp) (ho : q.traffic.ort = p.traffic.ort := by simp) :
    p.Follows q where
  control := hk
  data := hd
  answering n := by simp only [Slot.answeringAt, ho]
  live h := .inl (by simpa only [Slot.liveCount, ho] using h)
  queue _ := hq
  fenced := by rw [ho]; exact id

end Slot.Follows

section

variable (p : Slot)

theorem Slot.popReceive_follows : p.Follows p.popReceive :=
  .of_same .of_eq (fun h => h.with_traffic h.bounded.1 (by
    simp only [List.length_tail]
    exact (Nat.sub_le ..).trans h.bounded.2.1) (.refl _) (.refl _)) rfl rfl

theorem Slot.popReceive_debt : p.popReceive.debt = p.debt := rfl

theorem Slot.stageTx_follows (tx : Transaction) : p.Follows (p.stageTx tx) :=
  .of_same .of_eq (p.with_stage_calm (some tx)).data rfl rfl

theorem ScriptStore.captureWrite_bounded {sc : ScriptStore} (h : sc.stagingLength ≤ 64 ∧ sc.active.length ≤ 64)
    (off : Offset) (be : ByteEnables) (d : Dword) :
    (sc.captureWrite off be d).stagingLength ≤ 64 ∧ (sc.captureWrite off be d).active.length ≤ 64 := by
  unfold ScriptStore.captureWrite
  split
  · exact h
  · split
    · exact h
    · split
      · exact h
      · split
        · next hlt => exact ⟨hlt, h.2⟩
        · exact h

theorem Slot.deliverCapture_calm (q : EntryRequest) (st : Status) : p.Calm (p.deliverCapture q st) := by
  unfold Slot.deliverCapture
  split
  · split
    · exact .of_traffic rfl fun h => h.with_script (ScriptStore.captureWrite_bounded h.bounded.2.2.2 _ _ _)
    · exact .refl p
  · exact .refl p
  · exact .refl p

theorem Slot.deliverCapture_control (q : EntryRequest) (st : Status) : p.SameControl (p.deliverCapture q st) := by
  unfold Slot.deliverCapture
  split
  · split
    · exact .of_fields
    · exact .refl p
  · exact .refl p
  · exact .refl p

@[simp] theorem Slot.deliverCapture_traffic (q : EntryRequest) (st : Status) :
    (p.deliverCapture q st).traffic = p.traffic := by
  unfold Slot.deliverCapture
  split
  · split <;> rfl
  · rfl
  · rfl

theorem Estimator.sample_inRange {e : Estimator} (h : e.InRange) (now issue : Ticks) :
    (e.sample (latencyOf now issue)).InRange := by
  obtain ⟨h1, -⟩ := h
  have hl : latencyOf now issue ≤ 65535 := Nat.min_le_left ..
  refine ⟨?_, satAdd_le ..⟩
  simp only [Estimator.sample]
  omega

theorem Slot.sample_calm (c : RequestClass) (now issue : Ticks) :
    p.Calm { p with deadlines := p.deadlines.sample c (latencyOf now issue) } := by
  refine .of_traffic rfl fun h => ?_
  obtain ⟨-, -, ⟨-, -, -, hm, hc, -⟩, -⟩ := id h
  cases c
  · exact h.with_estimators (Estimator.sample_inRange hm now issue) hc
  · exact h.with_estimators hm (Estimator.sample_inRange hc now issue)

end

/-! ### Entries that leave the ORT -/

/-- What a list holds without the element that a search finds. -/
theorem eraseP_countP_of_find {α : Type} {p q : α → Bool} {l : List α} {e : α} (h : l.find? p = some e) :
    (l.eraseP p).countP q + (if q e then 1 else 0) = l.countP q := by
  obtain ⟨he, older, younger, rfl, hold⟩ := List.find?_eq_some_iff_append.1 h
  rw [eraseP_split _ _ _ _ (fun x hx => by simpa using hold x hx) he]
  simp only [List.countP_append, List.countP_cons]
  omega

/-- An entry that is neither FENCED nor ANSWERING leaves the ORT. -/
theorem Slot.erase_follows {p : Slot} {c : Entry → Bool} {e : Entry} (h : p.traffic.ort.find? c = some e)
    (hf : e.state ≠ .fenced) (ha : e.state ≠ .answering) :
    p.Follows { p with traffic := { p.traffic with ort := p.traffic.ort.eraseP c } } where
  control := .of_fields
  data hd := hd.with_ort (List.eraseP_sublist.map _) (List.eraseP_sublist.map _)
  answering n := by
    have hc := eraseP_countP_of_find (q := fun x : Entry => x.number == n && x.state == .answering) h
    simp [ha] at hc
    exact hc
  live hl := .inl (Nat.lt_of_lt_of_le hl List.eraseP_sublist.countP_le)
  queue _ := rfl
  fenced hany := by
    have hc := eraseP_countP_of_find (q := Entry.isFenced) h
    have hne : e.isFenced = false := by simpa [Entry.isFenced] using hf
    rw [List.any_eq_true, ← List.countP_pos_iff] at hany ⊢
    simp only [hne, Bool.false_eq_true, if_false, Nat.add_zero] at hc
    rw [hc]; exact hany

theorem Slot.erase_debt {p : Slot} {c : Entry → Bool} {e : Entry} (h : p.traffic.ort.find? c = some e) :
    ({ p with traffic := { p.traffic with ort := p.traffic.ort.eraseP c } } : Slot).debt + (if e.owed then 1 else 0) =
      p.debt := by
  have hc := eraseP_countP_of_find (q := Entry.owed) h
  simp only [Slot.debt]
  omega

section

variable (p : Slot) (now : Ticks) (room : Bool)

theorem Slot.admitEntry_follows {tx : Transaction} (hq : p.traffic.sendQueue.head? = some tx) (hs : p.serving = true)
    (ha : p.admissible tx = true) : p.Follows (p.admitEntry now tx) where
  control := p.admitEntry_control now tx
  data := (p.admitEntry_mild now hq ha).data
  answering := (p.admitEntry_mild now hq ha).answering
  live _ := .inr hs
  queue hn := absurd hs (by simp [hn])
  fenced hany := by
    have hn : nonPosted tx = true := by
      simp only [Slot.admissible, Bool.and_eq_true] at ha
      exact ha.1.1
    obtain ⟨⟨r, t, q⟩, hx⟩ := (nonPosted_iff_entry tx).1 hn
    rw [Slot.admitEntry_eq p now hx]
    simp only [List.any_append, hany, Bool.true_or]

/-- A head considered again: nothing but an admission can come of it. -/
theorem Slot.reconsider_follows : p.Follows (p.reconsider now room) ∧ (p.reconsider now room).debt = p.debt ∧
    (p.reconsider now room).traffic.stage = p.traffic.stage := by
  obtain he | ⟨tx, hq, hs, -, -, ha, he⟩ := p.reconsider_cases now room
  · rw [he]; exact ⟨.refl p, rfl, rfl⟩
  · rw [he]
    refine ⟨p.admitEntry_follows now hq hs ha, (p.admitEntry_mild now hq ha).debt, ?_⟩
    unfold Slot.admitEntry
    split <;> rfl

theorem Slot.countStray_follows : p.Follows p.countStray := .of_same p.countStray_control p.countStray_calm.data
theorem Slot.countStale_follows : p.Follows p.countStale := .of_same p.countStale_control p.countStale_calm.data

/-- An entry changes without its key, its number and its state. -/
theorem Slot.updateFirst_follows (c : Entry → Bool) {f : Entry → Entry} (st : Option Transaction)
    (h1 : ∀ x, (fun e : Entry => (e.requester, e.tag)) (f x) = (x.requester, x.tag)) (h2 : ∀ x, (f x).number = x.number)
    (h3 : ∀ x, (f x).state = x.state) :
    let q : Slot := { p with traffic := { p.traffic with stage := st, ort := updateFirst c f p.traffic.ort } }
    p.Follows q ∧ q.debt = p.debt := by
  have hcount : ∀ {q : Entry → Bool}, (∀ x, q (f x) = q x) → (updateFirst c f p.traffic.ort).countP q =
      p.traffic.ort.countP q := fun hq => updateFirst_countP_eq (fun x _ => hq x) _
  refine ⟨⟨.of_fields, fun hd => ?_, fun n => hcount fun x => by simp only [h2, h3], fun hl => .inl ?_, fun _ => rfl,
    fun hany => updateFirst_any_imp (q := Entry.isFenced) (fun x hx => by simpa [Entry.isFenced, h3] using hx) hany⟩, ?_⟩
  · exact hd.with_traffic (tr := { p.traffic with stage := st, ort := updateFirst c f p.traffic.ort }) hd.bounded.1
      hd.bounded.2.1 (by rw [updateFirst_map_eq h1]) (by rw [updateFirst_map_eq h2])
  · have hlive := hcount (q := Entry.isLive) fun x => by simp only [Entry.isLive, h3]
    exact Nat.lt_of_lt_of_eq hl hlive
  · simp only [Slot.debt, hcount (q := Entry.owed) fun x => by simp only [Entry.owed, Entry.isLive, Entry.isFenced, h3]]

/-- An answer taken either leaves the debt as it is, or settles a LIVE entry as it is staged (R32, R46). -/
def Slot.Settles (p q : Slot) (tx : Transaction) : Prop :=
  q.debt = p.debt ∨ (q.debt + 1 = p.debt ∧ q.traffic.stage = some tx)

theorem Slot.completeEntry_follows {e : Entry} (st : Status) (tx : Transaction)
    (h : p.traffic.ort.find? (Entry.hasKey e.requester e.tag) = some e) (he : e.state = .live) :
    p.Follows (p.completeEntry now e st tx room) ∧ p.Settles (p.completeEntry now e st tx room) tx := by
  have hfree : (p.stageTx tx).Follows ((p.stageTx tx).freeKey e.requester e.tag) :=
    Slot.erase_follows (p := p.stageTx tx) h (by simp [he]) (by simp [he])
  have hdebt := Slot.erase_debt (p := p.stageTx tx) h
  have howed : e.owed = true := by simp [Entry.owed, Entry.isLive, he]
  rw [howed, if_pos rfl] at hdebt
  let q := ((p.stageTx tx).freeKey e.requester e.tag).deliverCapture e.request st
  have hcap : ((p.stageTx tx).freeKey e.requester e.tag).Calm q := Slot.deliverCapture_calm _ _ _
  have hsamp := q.sample_calm e.request.cls now e.issueTime
  obtain ⟨hrec, hrd, hrs⟩ := Slot.reconsider_follows
    { q with deadlines := q.deadlines.sample e.request.cls (latencyOf now e.issueTime) } now room
  have hq : p.Follows q := (p.stageTx_follows tx).trans (hfree.trans
    (.of_same (Slot.deliverCapture_control _ _ _) hcap.data
      (congrArg Traffic.sendQueue (Slot.deliverCapture_traffic _ _ _))
      (congrArg Traffic.ort (Slot.deliverCapture_traffic _ _ _))))
  refine ⟨hq.trans (.trans (.of_same .of_fields hsamp.data rfl rfl) hrec), .inr ⟨?_, ?_⟩⟩
  · show (Slot.reconsider _ _ _).debt + 1 = _
    rw [hrd, hsamp.debt, hcap.debt]
    exact hdebt
  · show (Slot.reconsider _ _ _).traffic.stage = _
    rw [hrs]
    show q.traffic.stage = _
    rw [Slot.deliverCapture_traffic]
    rfl

theorem Slot.takeAnswer_follows (r : Requester) (t : Tag) (st : Status) (rem cnt : Nat) (tx : Transaction) :
    p.Follows (p.takeAnswer now r t st rem cnt tx room) ∧ p.Settles (p.takeAnswer now r t st rem cnt tx room) tx := by
  unfold Slot.takeAnswer
  cases hf : p.traffic.ort.find? (Entry.hasKey r t) with
  | none => exact ⟨p.countStray_follows, .inl p.countStray_calm.debt⟩
  | some e =>
    have hkey : e.requester = r ∧ e.tag = t := by simpa [Entry.hasKey] using List.find?_some hf
    have hstale : p.Follows p.countStale ∧ p.Settles p.countStale tx := ⟨p.countStale_follows, .inl p.countStale_calm.debt⟩
    cases hs : e.state with
    | live =>
      simp only [hs]
      split
      · exact p.completeEntry_follows now room st tx (by rw [hkey.1, hkey.2]; exact hf) hs
      · obtain ⟨hfol, hdebt⟩ := p.updateFirst_follows (Entry.hasKey r t)
          (f := fun x => { x with remaining := x.remaining - cnt }) (some tx) (fun _ => rfl) (fun _ => rfl) fun _ => rfl
        exact ⟨hfol, .inl hdebt⟩
      · exact ⟨p.countStray_follows, .inl p.countStray_calm.debt⟩
    | fenced | answering => simpa only [hs] using hstale
    | tombstone =>
      simp only [hs]
      split
      · have hf' : p.countStale.traffic.ort.find? (Entry.hasKey r t) = some e := by rw [Slot.countStale_traffic]; exact hf
        have hdebt := Slot.erase_debt hf'
        have hfree : p.countStale.Follows (p.countStale.freeKey r t) :=
          Slot.erase_follows hf' (by simp [hs]) (by simp [hs])
        obtain ⟨hrec, hrd, -⟩ := Slot.reconsider_follows (p.countStale.freeKey r t) now room
        refine ⟨p.countStale_follows.trans (hfree.trans hrec), .inl ?_⟩
        rw [hrd, ← p.countStale_calm.debt]
        have hnot : e.owed = false := by simp [Entry.owed, Entry.isLive, Entry.isFenced, hs]
        rw [hnot] at hdebt
        exact hdebt
      · exact hstale

end

end Sys2Proof.Machine

/-! SUPPORT. RECEIVE_QUEUE_TAKE and EGRESS_GRANT: the only commands that lower the debt to the host. -/

namespace Sys2Proof.Machine

variable {s t u : State} {i : SlotId}

/-! ### The stages are left alone where no gate closes -/

/-- No upstream stage changes from `s` to `t`. -/
def State.SameStages (s t : State) : Prop := ∀ j, (t.slot j).traffic.stage = (s.slot j).traffic.stage

namespace State.SameStages

theorem refl (s : State) : s.SameStages s := fun _ => rfl

theorem trans (h : s.SameStages t) (k : t.SameStages u) : s.SameStages u := fun j => (k j).trans (h j)

theorem of_slots (h : ∀ j, t.slot j = s.slot j) : s.SameStages t := fun j => by rw [h]

theorem modSlot (s : State) (i : SlotId) {f : Slot → Slot}
    (h : (f (s.slot i)).traffic.stage = (s.slot i).traffic.stage := by simp) : s.SameStages (s.modSlot i f) := by
  intro j
  rw [State.slot_modSlot]
  split
  · next hj => rw [h, hj]
  · rfl

theorem closeIncident (s : State) (i : SlotId) (oc : IncidentOutcome) : s.SameStages (s.closeIncident i oc) := by
  intro j
  by_cases hj : j = i
  · subst hj; rw [State.slot_closeIncident_same]; rfl
  · simp [hj]

theorem enterRailWait (s : State) (i : SlotId) : s.SameStages (s.enterRailWait i) := by
  have hw : s.SameStages (s.modSlot i fun p => p.enterPhase .railWait none) := modSlot s i
  unfold State.enterRailWait
  dsimp only
  split
  · exact hw.trans ((of_slots fun j => State.slot_setRail ..).trans (modSlot _ i rfl))
  · exact hw.trans (of_slots fun j => State.slot_setRail ..)

theorem releaseRail (s : State) (i : SlotId) : s.SameStages (s.releaseRail i) := by
  unfold State.releaseRail
  dsimp only
  split
  · split
    · exact (of_slots fun j => State.slot_setRail ..).trans (modSlot _ _ rfl)
    · exact of_slots fun j => State.slot_setRail ..
  · split
    · exact of_slots fun j => State.slot_setRail ..
    · exact .refl s

theorem retire (s : State) (i : SlotId) (a : RetireAction) : s.SameStages (s.retire i a) := by
  unfold State.retire
  exact (modSlot s i (by cases a <;> simp)).trans ((releaseRail _ i).trans (closeIncident _ i _))

theorem failAdmission (s : State) (i : SlotId) : s.SameStages (s.failAdmission i) := by
  unfold State.failAdmission
  exact (modSlot s i).trans ((releaseRail _ i).trans (closeIncident _ i _))

theorem beginAttempt (s : State) (i : SlotId) (l : Level) (b : Bool) : s.SameStages (s.beginAttempt i l b) := by
  unfold State.beginAttempt
  have hb : s.SameStages (s.modSlot i fun p =>
      if b && l != .function then (p.beginLevel l).assertReset else p.beginLevel l) :=
    modSlot s i (by split <;> simp)
  refine hb.trans ?_
  cases l
  · exact modSlot _ i
  · exact modSlot _ i rfl
  · exact enterRailWait _ i

theorem climb (s : State) (i : SlotId) (b : Bool) : s.SameStages (s.climb i b) := by
  unfold State.climb
  split
  · exact retire s i _
  · split
    · exact beginAttempt s i _ _
    · have hf : s.SameStages (s.modSlot i Slot.spendFunction) := modSlot s i
      dsimp only
      split
      · exact hf.trans (retire _ i _)
      · exact hf.trans (beginAttempt _ i _ _)
  · exact beginAttempt s i _ _

theorem endDraining (s : State) (i : SlotId) : s.SameStages (s.endDraining i) := by
  have ht : s.SameStages (s.modSlot i fun p => { p.fenceAll with seq := { p.fenceAll.seq with drainTimer := none } }) :=
    modSlot s i rfl
  unfold State.endDraining
  dsimp only
  split
  · exact ht.trans (failAdmission _ i)
  · have hf := ht.trans (modSlot _ i (f := fun p => p.setState .fenced))
    split
    · exact hf.trans ((modSlot _ i (f := Slot.takeSample)).trans (climb _ i false))
    · exact hf.trans (modSlot _ i (f := Slot.clearHeld))

theorem drainIfIdle (s : State) (i : SlotId) : s.SameStages (s.drainIfIdle i) := by
  unfold State.drainIfIdle
  split
  · exact endDraining s i
  · exact .refl s

end State.SameStages

/-! ### RECEIVE_QUEUE_TAKE -/

/-- After a command the part is sound, and owes the host what it did or one answer less, which it has sent on the trunk or
staged. -/
def State.Served (s t : State) : Prop :=
  t.Sound ∧ (t.debt = s.debt ∨ (s.debt = t.debt + 1 ∧
    ((∃ a, isAnswer a = true ∧ t.trunkSent = s.trunkSent ++ [a]) ∨
      ∃ i a, isAnswer a = true ∧ (s.slot i).traffic.stage = none ∧ (t.slot i).traffic.stage = some a)))

def State.ServedBy (s : State) (o : Host.Outcome State Fault Refusal) : Prop := ∀ t, o = .next t → s.Served t

theorem State.Kept.served (h : s.Kept t) : s.Served t := ⟨h.1, .inl h.2⟩

theorem State.Served.by (h : s.Served t) : s.ServedBy (.next t) := by
  intro u hu
  cases hu
  exact h

/-- An answer of a card is taken while its stage is empty. -/
theorem State.Sound.served_takeAnswer (h : s.Sound) {f : Slot → Slot} {tx : Transaction} (ha : isAnswer tx = true)
    (hst : (s.slot i).traffic.stage = none) (hf : (s.slot i).Follows (f (s.slot i)))
    (hset : (s.slot i).Settles (f (s.slot i)) tx) : s.Served ((s.modSlot i f).drainIfIdle i) := by
  have hfit := h.steady.fits i
  have hcontrol := hf.control
  have hslot : (s.modSlot i f).slot i = f (s.slot i) := by simp
  have hfit' : (f (s.slot i)).Fits true s.kill := by
    refine hfit.weaken.of_same hcontrol (fun hl => ?_) (fun hx => by simp at hx) fun hns => ?_
    · rw [hcontrol.serving, hcontrol.state]
      exact (hf.live hl).elim hfit.live .inl
    · rw [hcontrol.serving] at hns
      rw [hf.queue hns]
      exact hfit.awaits hns
  have hgrant : (s.modSlot i f).GrantOk i := by
    have hg := h.steady.grants i
    simpa [State.GrantOk, hcontrol.phase] using hg
  have hat := ((h.steady.fitsBut i).modSlot f).drainIfIdle (hslot ▸ hfit') hgrant
  have hcalm := (s.modSlot i f).drainIfIdle_calm i
  have hfair : s.Fair ((s.modSlot i f).drainIfIdle i) := by
    refine ⟨fun j => ?_, hcalm.quiet.head, hcalm.quiet.saq, hcalm.presents, hcalm.still.ranges⟩
    have hj : ((s.slot j).DataOk → ((s.modSlot i f).slot j).DataOk) ∧
        ∀ n, ((s.modSlot i f).slot j).answeringAt n = (s.slot j).answeringAt n := by
      rw [State.slot_modSlot]
      split
      · next hj => subst hj; exact ⟨hf.data, hf.answering⟩
      · exact ⟨id, fun _ => rfl⟩
    exact ⟨(hcalm.slots j).data ∘ hj.1, fun n => ((hcalm.slots j).answering n).trans (hj.2 n)⟩
  have hsteady := h.steady.of_fitsAt hfair (by rw [hcalm.quiet.kill]; exact hat)
  refine ⟨hsteady.sound (h.busy.of_owes (by rw [hcalm.quiet.mailbox]; rfl) hcalm.quiet.resetScope fun hr j => ?_), ?_⟩
  · have hidle : (s.modSlot i f).drainIfIdle i = s.modSlot i f := by
      unfold State.drainIfIdle
      rw [if_neg]
      rw [hslot, hcontrol.state]
      rintro ⟨hd, -⟩
      obtain hs | hs := (h.busy.2 hr).2 i <;> simp [hs] at hd
    rw [hidle, State.slot_modSlot]
    split
    · next hj =>
      subst hj
      have hns := h.busy.not_serving hr j
      refine ⟨by rw [hcontrol.state]; exact (h.busy.2 hr).2 j, fun ho => ?_⟩
      simp only [Slot.nothingOwed, Bool.and_eq_false_iff, Bool.not_eq_false', hf.queue hns] at ho ⊢
      exact ho.imp_left hf.fenced
    · exact ⟨(h.busy.2 hr).2 j, id⟩
  · have hdebt : ∀ {a b : Nat}, (f (s.slot i)).debt + a = (s.slot i).debt + b → (s.modSlot i f).debt + a = s.debt + b := by
      intro a b hab
      have hsum := sum_slots_change (f := fun j => (s.slot j).debt) (g := fun j => ((s.modSlot i f).slot j).debt)
        (i := i) (a := a) (b := b) (fun j hj => by simp only [State.slot_modSlot_ne _ _ _ _ hj])
        (by simpa only [hslot] using hab)
      rw [State.debt_eq, State.debt_eq, show (s.modSlot i f).otherDebt = s.otherDebt from rfl]
      omega
    rw [hcalm.debt]
    obtain hd | ⟨hd, hstage⟩ := hset
    · exact .inl (hdebt (a := 0) (b := 0) hd)
    · refine .inr ⟨(hdebt (a := 1) (b := 0) hd).symm, .inr ⟨i, tx, ha, hst, ?_⟩⟩
      rw [State.SameStages.drainIfIdle, hslot]
      exact hstage

theorem execReceiveQueueTake_served (h : s.Sound) (room : Bool) : s.ServedBy (execReceiveQueueTake i room s) := by
  have hdrop : s.Kept (s.modSlot i fun p => p.popReceive.countDroppedCardRequests 1) := by
    have hpop : (s.slot i).Calm (s.slot i).popReceive :=
      ⟨(s.slot i).popReceive_follows.data, rfl, fun _ => rfl, fun ho => ⟨ho, id⟩⟩
    exact h.kept_same (hpop.trans (Slot.countDroppedCardRequests_calm _ 1))
      ((s.slot i).popReceive_follows.control.trans (Slot.countDroppedCardRequests_control _ 1))
      (by rw [Slot.countDroppedCardRequests_traffic]; rfl) (by rw [Slot.countDroppedCardRequests_traffic]; rfl)
  have hforward : ∀ tx, s.Kept (if (s.slot i).traffic.stage.isSome then s
      else if (s.slot i).serving then s.modSlot i fun p => p.popReceive.stageTx tx
      else s.modSlot i fun p => p.popReceive.countDroppedCardRequests 1) := fun tx =>
    .ite (fun _ => h.kept) fun _ => .ite (fun _ => h.kept_same
      ⟨((s.slot i).popReceive_follows.trans (Slot.stageTx_follows _ tx)).data, rfl, fun _ => rfl, fun ho => ⟨ho, id⟩⟩
      .of_eq rfl rfl) fun _ => hdrop
  unfold execReceiveQueueTake
  refine State.Served.by ?_
  split
  · exact h.kept.served
  · next r t st rem cnt data hq =>
    have hpop : (s.slot i).Calm (s.slot i).popReceive.reloadStall :=
      .trans ⟨(s.slot i).popReceive_follows.data, rfl, fun _ => rfl, fun ho => ⟨ho, id⟩⟩ (Slot.reloadStall_calm _)
    split
    · have hk : s.Kept (s.modSlot i fun p => p.popReceive.reloadStall) := h.kept_same hpop .of_eq rfl rfl
      exact (hk.trans (hk.1.kept_executorAnswer i t st data)).served
    · split
      · exact h.kept.served
      · next hstage =>
        have hp : (s.slot i).Follows (s.slot i).popReceive.reloadStall := .of_same .of_eq hpop.data rfl rfl
        obtain ⟨hf, hset⟩ := (s.slot i).popReceive.reloadStall.takeAnswer_follows s.time.now room r t st rem cnt
          (.answer r t st rem cnt data)
        exact h.served_takeAnswer (f := fun p => p.popReceive.reloadStall.takeAnswer s.time.now r t st rem cnt
          (.answer r t st rem cnt data) room) rfl (by simpa using hstage) (hp.trans hf) hset
  · exact hdrop.served
  · exact hdrop.served
  · exact hdrop.served
  · exact (hforward _).served

/-! ### EGRESS_GRANT -/

theorem State.Sound.kept_grantSlot (h : s.Sound) (i : SlotId) (src : Source) :
    s.Kept { s.grantSlot i with lastServed := src } := by
  unfold State.grantSlot
  split
  · exact h.of_same
  · have hk : s.Kept (s.modSlot i fun p => { p with traffic := { p.traffic with stage := none } }) :=
      h.kept_same ((s.slot i).with_stage_calm none) .of_eq rfl rfl
    exact hk.trans hk.1.of_same

/-- What the Management Function presents changes: the slots and the SAQ stand. -/
theorem State.Steady.of_presented (h : s.Steady) (hp : t.Presents) (hr : s.PartInRange → t.PartInRange)
    (h1 : t.slots = s.slots := by rfl) (h2 : t.head = s.head := by rfl)
    (h3 : t.saq = s.saq := by rfl) (h6 : t.kill = s.kill := by rfl) (h7 : t.railA = s.railA := by rfl)
    (h8 : t.railB = s.railB := by rfl) : t.Steady := by
  have hs : ∀ j, t.slot j = s.slot j := fun j => by rw [State.slot, h1]; rfl
  have hrail := State.rail_of h7 h8
  have hfair : s.Fair t := ⟨fun j => by rw [hs]; exact ⟨id, fun _ => rfl⟩, h2, h3, fun _ => hp, hr⟩
  refine h.of_fair hfair (fun j => ?_) ?_ (h.rails_of_same hrail)
  · rw [hs, h6]; exact h.fits j
  · exact h.grants_of_same hrail fun j => by rw [hs]

/-- What is waiting is sent and something else presented. -/
theorem State.Sound.of_presented (h : s.Sound) (hp : t.Presents) (hr : s.PartInRange → t.PartInRange)
    (h1 : t.slots = s.slots := by rfl) (h2 : t.head = s.head := by rfl)
    (h3 : t.saq = s.saq := by rfl) (h6 : t.kill = s.kill := by rfl) (h7 : t.railA = s.railA := by rfl)
    (h8 : t.railB = s.railB := by rfl) (h12 : t.mailbox = s.mailbox := by rfl)
    (h13 : t.resetScope = s.resetScope := by rfl) : t.Sound := by
  have hs : ∀ j, t.slot j = s.slot j := fun j => by rw [State.slot, h1]; rfl
  refine (h.steady.of_presented hp hr h1 h2 h3 h6 h7 h8).sound ?_
  exact h.busy.of_owes (by rw [h12]) h13 fun hsome j => by rw [hs]; exact ⟨(h.busy.2 hsome).2 j, id⟩

theorem MgtAnswer.toAnswer_isAnswer (a : MgtAnswer) : isAnswer a.toAnswer = true := by
  unfold MgtAnswer.toAnswer
  split <;> rfl

theorem State.Sound.served_grantMgt (h : s.Sound) (src : Source) : s.Served { s.grantMgt with lastServed := src } := by
  obtain ⟨hp1, hp2, hp3, hp4⟩ := h.presents
  unfold State.grantMgt
  split
  · exact h.of_same.served
  · next hp =>
    obtain ⟨a, ha⟩ := Option.isSome_iff_exists.1 (hp1 hp)
    rw [ha]
    dsimp only
    have hpres : (({ s with waitingAnswer := none, presenting := none } : State).sendTrunk a.toAnswer).present.Presents :=
      State.present_presents (by simp [State.sendTrunk]) (by simp [State.sendTrunk]) hp4
    have hs : (({ s with waitingAnswer := none, presenting := none } : State).sendTrunk a.toAnswer).present.Sound :=
      h.of_presented hpres (fun hr => by simpa [State.PartInRange, State.sendTrunk] using hr) (by simp [State.sendTrunk])
        (by simp [State.sendTrunk]) (by simp [State.sendTrunk]) (by simp [State.sendTrunk]) (by simp [State.sendTrunk])
        (by simp [State.sendTrunk]) (by simp [State.sendTrunk]) (by simp [State.sendTrunk])
    refine ⟨hs.of_same.1, .inr ⟨?_, .inl ⟨a.toAnswer, a.toAnswer_isAnswer, by simp [State.sendTrunk]⟩⟩⟩
    rw [State.debt_eq, State.debt_eq]
    simp [State.otherDebt, State.sendTrunk, State.slot, ha]
    omega
  · next hp =>
    have hpres : ((({ s with
        notices := { s.notices with unsent := false }
        presenting := none
        counters := { s.counters with notices := satAdd Config.counterLimit s.counters.notices 1 } } : State).sendTrunk
      s.notices.toWrite).present).Presents :=
      State.present_presents (by simp [State.sendTrunk]) (by simp [State.sendTrunk]) (by simp [State.sendTrunk])
    have hs := h.of_presented hpres (fun hr => by
        obtain ⟨⟨h1, h2, -⟩, hr⟩ := hr
        simp only [State.PartInRange, State.sendTrunk, State.present_counters, State.present_time, State.present_health]
        exact ⟨⟨h1, h2, satAdd_le ..⟩, hr⟩) (by simp [State.sendTrunk])
      (by simp [State.sendTrunk]) (by simp [State.sendTrunk]) (by simp [State.sendTrunk]) (by simp [State.sendTrunk])
      (by simp [State.sendTrunk]) (by simp [State.sendTrunk]) (by simp [State.sendTrunk])
    refine ⟨hs.of_same.1, .inl ?_⟩
    rw [State.debt_eq, State.debt_eq]
    simp [State.otherDebt, State.sendTrunk, State.slot]

/-- What telling its owner does to a slot: one ANSWERING entry of that number less, and nothing owed more or less. -/
structure Slot.Told (p q : Slot) (n : Nat) : Prop where
  control : p.SameControl q
  data : q.DataOk
  answering : ∀ m, q.answeringAt m + (if m = n then 1 else 0) = p.answeringAt m
  live : p.serving = false → q.liveCount = p.liveCount
  queue : p.serving = false → q.traffic.sendQueue = p.traffic.sendQueue
  fenced : p.traffic.ort.any Entry.isFenced = true → q.traffic.ort.any Entry.isFenced = true
  debt : q.debt = p.debt

theorem Slot.Told.reconsider {p q : Slot} {n : Nat} (h : p.Told q n) (now : Ticks) (room : Bool) :
    p.Told (q.reconsider now room) n := by
  obtain ⟨k, hd, -⟩ := q.reconsider_follows now room
  have hsame : p.serving = false → q.reconsider now room = q := fun hs =>
    q.reconsider_noneWaits now room fun _ => .inl (h.control.serving.trans hs)
  exact
    { control := h.control.trans k.control
      data := k.data h.data
      answering := fun m => by rw [k.answering]; exact h.answering m
      live := fun hs => by rw [hsame hs]; exact h.live hs
      queue := fun hs => by rw [hsame hs]; exact h.queue hs
      fenced := k.fenced ∘ h.fenced
      debt := hd.trans h.debt }

/-- The entry that a number selects, where one with that number is ANSWERING. -/
theorem Slot.DataOk.find_answering {p : Slot} (h : p.DataOk) {n : Nat} (hn : 0 < p.answeringAt n) :
    ∃ e, p.traffic.ort.find? (Entry.hasNumber n) = some e ∧ e.number = n ∧ e.state = .answering := by
  obtain ⟨e, he, hs⟩ := List.countP_pos_iff.1 hn
  simp only [Bool.and_eq_true, beq_iff_eq] at hs
  obtain ⟨x, hx⟩ := Option.isSome_iff_exists.1 (List.find?_isSome.2
    ⟨e, he, by simp [Entry.hasNumber, hs.1]⟩ : (p.traffic.ort.find? (Entry.hasNumber n)).isSome = true)
  have hxn : x.number = n := by simpa [Entry.hasNumber] using List.find?_some hx
  have heq : x = e := List.inj_on_of_nodup_map h.distinct.2.1 (List.mem_of_find?_eq_some hx) he (hxn.trans hs.1.symm)
  exact ⟨x, hx, hxn, heq ▸ hs.2⟩

theorem Slot.DataOk.ownerTold {p : Slot} (h : p.DataOk) {n : Nat} (hn : 0 < p.answeringAt n) (now : Ticks) (room : Bool) :
    p.Told (p.ownerTold now n room) n := by
  obtain ⟨e, he, hnum, hst⟩ := h.find_answering hn
  have hlive : e.isLive = false := by simp [Entry.isLive, hst]
  have hfen : e.isFenced = false := by simp [Entry.isFenced, hst]
  have howed : e.owed = false := by simp [Entry.owed, hlive, hfen]
  have hans : ∀ m, (e.number == m && e.state == .answering) = decide (m = n) := fun m => by
    rw [Bool.eq_iff_iff]
    simp only [hnum, hst, beq_self_eq_true, Bool.and_true, beq_iff_eq, decide_eq_true_eq]
    exact eq_comm
  unfold Slot.ownerTold
  rw [he]
  dsimp only
  split
  · have hcount := fun q : Entry → Bool =>
      updateFirst_countP_of_find (q := q) (f := fun x : Entry => { x with state := .tombstone }) he
    refine ⟨.of_fields, h.with_ort (by rw [updateFirst_map_eq fun _ => by rfl]) (by rw [updateFirst_map_eq fun _ => by rfl]),
      fun m => ?_, fun _ => ?_, fun _ => rfl, fun hany => ?_, ?_⟩
    · have hc := hcount fun x => x.number == m && x.state == .answering
      rw [hans] at hc
      simpa [Slot.answeringAt] using hc
    · have hc := hcount Entry.isLive
      rw [hlive] at hc
      exact hc
    · have hc := hcount Entry.isFenced
      simp only [hfen] at hc
      rw [List.any_eq_true, ← List.countP_pos_iff] at hany ⊢
      exact Nat.lt_of_lt_of_eq hany (by simpa [Entry.isFenced] using hc.symm)
    · have hc := hcount Entry.owed
      rw [howed] at hc
      simp only [Slot.debt]
      simp only [Bool.false_eq_true, if_false, Nat.add_zero] at hc
      rw [hc]
      rfl
  · have hcount := fun q : Entry → Bool => eraseP_countP_of_find (q := q) he
    refine Slot.Told.reconsider (p := p) (q := { p with traffic := { p.traffic with
      ort := p.traffic.ort.eraseP (Entry.hasNumber n) } }) ⟨.of_fields, h.with_ort (List.eraseP_sublist.map _) (List.eraseP_sublist.map _),
      fun m => ?_, fun _ => ?_, fun _ => rfl, fun hany => ?_, ?_⟩ _ _
    · have hc := hcount fun x => x.number == m && x.state == .answering
      rw [hans] at hc
      simpa [Slot.answeringAt] using hc
    · have hc := hcount Entry.isLive
      rw [hlive] at hc
      exact hc
    · have hc := hcount Entry.isFenced
      simp only [hfen] at hc
      rw [List.any_eq_true, ← List.countP_pos_iff] at hany ⊢
      exact Nat.lt_of_lt_of_eq hany (by simpa using hc.symm)
    · have hc := hcount Entry.owed
      rw [howed] at hc
      simp only [Slot.debt]
      simp only [Bool.false_eq_true, if_false, Nat.add_zero] at hc
      rw [hc]

/-- An item leaves the SAQ. -/
theorem State.otherDebt_pop {item : SaqItem} (h1 : t.head = s.head) (h2 : s.saq = item :: t.saq)
    (h3 : t.waitingAnswer = s.waitingAnswer) : s.otherDebt = t.otherDebt + 1 := by
  simp only [State.otherDebt, h1, h2, h3, List.length_cons]
  omega

/-- After a command the part is sound, and owes the host what it did or one answer less, which it has sent on the trunk. -/
def State.Sent (s t : State) : Prop :=
  t.Sound ∧ (t.debt = s.debt ∨ (s.debt = t.debt + 1 ∧ ∃ a, isAnswer a = true ∧ t.trunkSent = s.trunkSent ++ [a]))

theorem State.Sent.served (h : s.Sent t) : s.Served t := ⟨h.1, h.2.imp id fun ⟨hd, ha⟩ => ⟨hd, .inl ha⟩⟩

/-- The head item of the SAQ is sent: an answer goes on the trunk, and the owner is told. -/
theorem State.Sound.sent_grantSyn (h : s.Sound) (room : Bool) : s.Sent (s.grantSyn room) := by
  unfold State.grantSyn
  cases hsaq : s.saq with
  | nil => exact ⟨h, .inl rfl⟩
  | cons item rest =>
    have hlen : rest.length ≤ 64 := by
      have hl := h.steady.saq
      rw [hsaq] at hl
      exact (Nat.le_succ _).trans hl
    have hitems : ∀ j n, (rest.countP fun it => it.owner == some { slot := j, entry := n }) +
        (if item.owner = some { slot := j, entry := n } then 1 else 0) = (s.slot j).answeringAt n := fun j n => by
      rw [← h.steady.owners j n, hsaq, List.countP_cons]
      simp only [beq_iff_eq]
    have hsent : isAnswer item.toAnswer = true := rfl
    dsimp only
    cases howner : item.owner with
    | none =>
      refine ⟨State.Steady.sound ⟨h.steady.data, h.steady.fits, h.steady.grants, h.steady.rails, hlen, fun j n => ?_,
        h.head, h.presents, h.steady.ranges⟩ h.busy, .inr ⟨?_, _, hsent, rfl⟩⟩
      · have hi := hitems j n
        simp only [howner, reduceCtorEq, if_false, Nat.add_zero] at hi
        exact hi
      · rw [State.debt_eq, State.debt_eq, State.otherDebt_pop (s := s)
          (t := ({ s with saq := rest } : State).sendTrunk item.toAnswer) rfl hsaq rfl]
        rfl
    | some o =>
      have hpos : 0 < (s.slot o.slot).answeringAt o.entry := by
        rw [← hitems, howner, if_pos rfl]
        exact Nat.succ_pos _
      have htold := (h.steady.data o.slot).ownerTold hpos s.time.now room
      let v := ({ s with saq := rest } : State).sendTrunk item.toAnswer
      let f : Slot → Slot := fun p => p.ownerTold s.time.now o.entry room
      have hslot : (v.modSlot o.slot f).slot o.slot = f (s.slot o.slot) := by rw [State.slot_modSlot_same]; rfl
      have hother : ∀ j, j ≠ o.slot → (v.modSlot o.slot f).slot j = s.slot j := fun j hj => by
        rw [State.slot_modSlot_ne _ _ _ _ hj]; rfl
      have hr : ∀ r, (v.modSlot o.slot f).rail r = s.rail r := fun r => by cases r <;> rfl
      have hfit : (f (s.slot o.slot)).Fits false s.kill := by
        have hfit := h.steady.fits o.slot
        have hsv := htold.control.serving
        refine hfit.of_same htold.control (fun hl => ?_) (fun _ hd => ?_) fun hns => ?_
        · rw [hsv, htold.control.state]
          cases hns : (s.slot o.slot).serving with
          | true => exact .inl rfl
          | false => exact hns ▸ hfit.live (htold.live hns ▸ hl)
        · rw [htold.control.state] at hd
          have hns : (s.slot o.slot).serving = false := by simp [Slot.serving, hd, SlotState.serving]
          rw [htold.live hns]
          exact hfit.drains rfl hd
        · rw [hsv] at hns
          rw [htold.queue hns]
          exact hfit.awaits hns
      refine ⟨State.Steady.sound ⟨fun j => ?_, h.steady.fits_of_same (i := o.slot) rfl hother (hslot ▸ hfit),
        h.steady.grants_of_same hr fun j => ?_, h.steady.rails_of_same hr, hlen, fun j n => ?_, h.head, h.presents,
        h.steady.ranges⟩ (h.busy.of_owes rfl rfl fun hsome j => ?_), .inr ⟨?_, _, hsent, rfl⟩⟩
      · by_cases hj : j = o.slot
        · subst hj; rw [hslot]; exact htold.data
        · rw [hother j hj]; exact h.steady.data j
      · by_cases hj : j = o.slot
        · subst hj; rw [hslot]; exact htold.control.phase
        · rw [hother j hj]
      · have hi := hitems j n
        by_cases hj : j = o.slot
        · subst hj
          rw [hslot]
          have ha := htold.answering n
          have hcond : (item.owner = some { slot := o.slot, entry := n }) ↔ n = o.entry := by
            rw [howner, Option.some.injEq]
            exact ⟨fun hc => by rw [hc], fun hc => by rw [hc]⟩
          simp only [hcond] at hi
          change rest.countP _ = ((s.slot o.slot).ownerTold s.time.now o.entry room).answeringAt n
          omega
        · rw [hother j hj]
          have hcond : item.owner ≠ some { slot := j, entry := n } := by
            rw [howner]
            intro hc
            simp only [Option.some.injEq] at hc
            exact hj (by rw [hc])
          simpa [hcond] using hi
      · by_cases hj : j = o.slot
        · subst hj
          rw [hslot]
          have hns := h.busy.not_serving hsome o.slot
          refine ⟨by rw [htold.control.state]; exact (h.busy.2 hsome).2 _, fun ho => ?_⟩
          simp only [Slot.nothingOwed, Bool.and_eq_false_iff, Bool.not_eq_false'] at ho ⊢
          rw [htold.queue hns]
          exact ho.imp_left htold.fenced
        · rw [hother j hj]; exact ⟨(h.busy.2 hsome).2 j, id⟩
      · have hsum := sum_slots_change (f := fun j => (s.slot j).debt) (g := fun j => ((v.modSlot o.slot f).slot j).debt)
          (i := o.slot) (a := 0) (b := 0) (fun j hj => by simp only [hother j hj]) (by simp only [hslot, htold.debt, f])
        show s.debt = (v.modSlot o.slot f).debt + 1
        rw [State.debt_eq, State.debt_eq]
        have hod : s.otherDebt = (v.modSlot o.slot f).otherDebt + 1 := State.otherDebt_pop rfl hsaq rfl
        omega

/-! ### What comes before a grant of SYN sends nothing -/

theorem State.settleReset_trunkSent (s : State) : s.settleReset.trunkSent = s.trunkSent := by
  unfold State.settleReset
  split
  · simp [State.endReset, State.restoreTables]
  · rfl

theorem State.answerQueued_trunkSent (s : State) (i : SlotId) : (s.answerQueued i).trunkSent = s.trunkSent := by
  unfold State.answerQueued
  split
  · rfl
  · split
    · split
      · rw [State.settleReset_trunkSent]; rfl
      · rfl
    · rfl

theorem State.answerFenced_trunkSent (s : State) (i : SlotId) : (s.answerFenced i).trunkSent = s.trunkSent := by
  unfold State.answerFenced
  split
  · rfl
  · split
    · rw [State.settleReset_trunkSent]; rfl
    · rfl

theorem State.meetClaim_trunkSent (s : State) : s.meetClaim.trunkSent = s.trunkSent := by
  unfold State.meetClaim
  split
  · rfl
  · split
    · exact s.answerFenced_trunkSent _
    · exact s.answerQueued_trunkSent _

theorem State.meetClaims_trunkSent (n : Nat) (s : State) : (State.meetClaims n s).trunkSent = s.trunkSent := by
  induction n generalizing s with
  | zero => rfl
  | succ n ih =>
    unfold State.meetClaims
    split
    · rw [ih, s.meetClaim_trunkSent]
    · rfl

theorem State.beforeSyn_trunkSent (s : State) : s.beforeSyn.trunkSent = s.trunkSent := by
  unfold State.beforeSyn
  split
  · rfl
  · split
    · exact State.meetClaims_trunkSent _ s
    · rfl

theorem execEgressGrant_served (h : s.Sound) (room : Bool) : s.ServedBy (execEgressGrant room s) := by
  unfold execEgressGrant
  refine State.Served.by ?_
  split
  · split
    · exact h.kept.served
    · exact (h.kept_grantSlot _ _).served
    · have hb := h.kept_beforeSyn
      obtain ⟨hs, hd⟩ := hb.1.sent_grantSyn room
      have hl : ({ s.beforeSyn.grantSyn room with lastServed := Source.syn } : State).Sound ∧ _ := hs.of_same
      refine State.Sent.served ⟨hl.1, ?_⟩
      rw [← hb.2, ← s.beforeSyn_trunkSent]
      exact hd
    · exact h.served_grantMgt _
  · exact h.kept.served

end Sys2Proof.Machine

/-! SUPPORT. The mailbox commands: the effect of each on a steady state whose mailbox a GO has made BUSY ends in a sound
state that owes the host the same. -/

namespace Sys2Proof.Machine

variable {s t u : State} {i : SlotId}

/-! ### Replies -/

/-- What soundness but for the mailbox asks of a state is in these fields. -/
theorem State.Steady.of_same (h : s.Steady) (hr : s.PartInRange → t.PartInRange := by exact id)
    (h1 : t.slots = s.slots := by rfl) (h2 : t.head = s.head := by rfl)
    (h3 : t.saq = s.saq := by rfl) (h6 : t.kill = s.kill := by rfl) (h7 : t.railA = s.railA := by rfl)
    (h8 : t.railB = s.railB := by rfl) (h9 : t.notices = s.notices := by rfl)
    (h10 : t.waitingAnswer = s.waitingAnswer := by rfl) (h11 : t.presenting = s.presenting := by rfl) :
    t.Steady ∧ t.debt = s.debt := by
  have hs : ∀ j, t.slot j = s.slot j := fun j => by rw [State.slot, h1]; rfl
  have hrail := State.rail_of h7 h8
  have hstill : s.Still t :=
    ⟨fun j => by rw [hs]; exact (Slot.Calm.refl _).mild, h2, h3, h10, by simp only [State.Presents, h9, h10, h11, imp_self],
      hr⟩
  refine ⟨h.of_still hstill (fun j => ?_) ?_ (h.rails_of_same hrail), hstill.debt⟩
  · rw [hs, h6]; exact h.fits j
  · exact h.grants_of_same hrail fun j => by rw [hs]

/-- A reply of a command begun on `s`: its state is steady, owes the same, and no reset is in progress. -/
structure Reply.Fine (s : State) (r : Reply) : Prop where
  steady : r.state.Steady
  debt : r.state.debt = s.debt
  scope : r.state.resetScope = none

theorem Reply.Fine.complete {r : Reply} (h : r.Fine s) : s.Kept r.complete :=
  ⟨(h.steady.with_mailbox _).sound (.of_none h.scope fun hc => by cases hc), h.debt⟩

theorem State.Steady.refuse_fine (h : s.Steady) (hr : s.resetScope = none) (code : Result) : (s.refuse code).Fine s :=
  ⟨h, rfl, hr⟩

theorem State.Steady.done_fine (h : s.Steady) (hr : s.resetScope = none) (code : Result) (l : List Dword) :
    (s.done code l).Fine s := ⟨h, rfl, hr⟩

/-- A calm effect. -/
theorem State.Calm.done_fine (hc : s.Calm t) (ht : t.Steady) (hr : s.resetScope = none) (code : Result) (l : List Dword) :
    (t.done code l).Fine s := ⟨ht, hc.debt, hc.quiet.resetScope.trans hr⟩

theorem State.Steady.withSlot_fine (h : s.Steady) (hr : s.resetScope = none) {f : SlotId → Reply}
    (hf : ∀ i, (f i).Fine s) : (s.withSlot f).Fine s := by
  unfold State.withSlot
  split
  · exact hf _
  · exact h.refuse_fine hr _

theorem Reply.Fine.ite {c : Prop} [Decidable c] {a b : Reply} (ha : c → a.Fine s) (hb : ¬c → b.Fine s) :
    (if c then a else b).Fine s := by
  split
  · next h => exact ha h
  · next h => exact hb h

/-- One slot changes calmly, its control, its Send Queue and its ORT the same. -/
theorem State.Steady.modSlot_fine (h : s.Steady) (hr : s.resetScope = none) {f : Slot → Slot}
    (hc : (s.slot i).Calm (f (s.slot i))) (hk : (s.slot i).SameControl (f (s.slot i)))
    (code : Result) (l : List Dword) (hq : (f (s.slot i)).traffic = (s.slot i).traffic := by rfl) :
    ((s.modSlot i f).done code l).Fine s :=
  (s.modSlot_calm i hc).done_fine (h.modSlot_same hc.mild hk (by rw [hq]) (by rw [hq])) hr code l

/-! ### Tables -/

section

variable (h : s.Steady) (hr : s.resetScope = none)

include h hr

theorem State.Steady.setWindow_fine : s.setWindow.Fine s := by
  refine h.withSlot_fine hr fun i => .ite (fun _ => h.refuse_fine hr _) fun _ => ?_
  exact ⟨h.of_same.1, h.of_same.2, hr⟩

theorem State.Steady.commitWindows_fine : s.commitWindows.Fine s := ⟨h.of_same.1, h.of_same.2, hr⟩

theorem State.Steady.setSlotBus_fine : s.setSlotBus.Fine s :=
  h.withSlot_fine hr fun _ => ⟨h.of_same.1, h.of_same.2, hr⟩

theorem State.Steady.setVisit_fine : s.setVisit.Fine s := by
  have hv := clampTo_mem 16 4095 (s.param 0).toNat (by decide)
  have hs := h.of_same (t := { s with health := { s.health with visit := clampTo 16 4095 (s.param 0).toNat } })
    fun ⟨h1, h2, h3, _, _, h6⟩ => ⟨h1, h2, h3, hv.1, hv.2, h6⟩
  exact ⟨hs.1, hs.2, hr⟩

theorem State.Steady.setTimebase_fine : s.setTimebase.Fine s := by
  have hv := clampTo_mem 9 65535 (s.param 0).toNat (by decide)
  have hs := h.of_same (t := { s with time := { s.time with prescale := clampTo 9 65535 (s.param 0).toNat } })
    fun ⟨h1, _, _, h4⟩ => ⟨h1, hv.1, hv.2, h4⟩
  exact ⟨hs.1, hs.2, hr⟩

theorem State.Steady.setMonitor_fine : s.setMonitor.Fine s := by
  refine h.withSlot_fine hr fun i => h.modSlot_fine hr (.of_detect fun ⟨h1, h2, h3⟩ => ⟨?_, ?_, h3⟩) .of_fields _ _
  · have c1 := clampTo_mem 100 65535 (s.param 0).toNat (by decide)
    have c2 := clampTo_mem 1 255 (s.param 1).toNat (by decide)
    have c3 := clampTo_mem 1 255 (s.param 2).toNat (by decide)
    have c4 := clampTo_mem 0 15 (s.param 3).toNat (by decide)
    exact ⟨c1.1, c1.2, c2.1, c2.2, c3.1, c3.2, c4.2⟩
  · exact (Nat.min_le_left ..).trans h2

theorem State.Steady.setLimits_fine : s.setLimits.Fine s := by
  refine h.withSlot_fine hr fun i => ?_
  split
  · exact h.refuse_fine hr _
  · next c _ =>
    refine h.modSlot_fine hr (.of_traffic rfl fun hd => ?_) .of_fields _ _
    obtain ⟨hb, hdis, ⟨h1, h2, h3, h4, h5, hrest⟩, hat⟩ := hd
    have c1 := clampTo_mem 1 65535 (s.param 1).toNat (by decide)
    have c2 := clampTo_mem (clampTo 1 65535 (s.param 1).toNat) 65535 (s.param 2).toNat c1.2
    have c3 := clampTo_mem 4 255 (s.param 3).toNat (by decide)
    have c4 := clampTo_mem 0 255 (s.param 4).toNat (by decide)
    cases c
    · exact ⟨hb, hdis, ⟨⟨c1.1, c2.1, c2.2, c3.1, c3.2, c4.2⟩, h2, h3, Estimator.zero_inRange, h5, hrest⟩, hat⟩
    · exact ⟨hb, hdis, ⟨h1, ⟨c1.1, c2.1, c2.2, c3.1, c3.2, Nat.zero_le _⟩, rfl, h4, Estimator.zero_inRange, hrest⟩, hat⟩

omit h hr in
theorem settleOffset_mod (n : Nat) : settleOffset n % 4 = 0 ∧ settleOffset n < 4096 := by
  unfold settleOffset
  omega

omit h hr in
/-- A plan that SET PLAN settles can be in force (R100, R101). -/
theorem settlePlan_usable {p : Slot} {q : Plan} (hq : settlePlan s p.lines.powerControl = some q) : p.PlanUsable q := by
  unfold settlePlan at hq
  split at hq
  · split at hq
    · cases hq
    · split at hq
      · cases hq
      · split at hq
        · cases hq
        · next start style action _ _ _ _ hstart haction =>
          simp only [Option.some.injEq] at hq
          subst hq
          let n := planNumbers s
          have c1 := clampTo_mem 1 7 n.function (by decide)
          have c2 := clampTo_mem 1 7 n.slot (by decide)
          have c3 := clampTo_mem 1 7 n.power (by decide)
          have c5 := clampTo_mem 0 255 n.drain (by decide)
          have c6 := clampTo_mem 1 1000 n.assert (by decide)
          have c7 := clampTo_mem 10 10000 n.off (by decide)
          have c8 := clampTo_mem 1 1000 n.pwrgdLimit (by decide)
          have c9 := clampTo_mem 1 1000 n.onSettle (by decide)
          have c10 := clampTo_mem 10 5000 n.linkLimit (by decide)
          have c11 := clampTo_mem 0 1000 n.settle (by decide)
          have c12 := clampTo_mem 1 1000 n.stepLimit (by decide)
          have c13 := clampTo_mem 0 60000 n.probation (by decide)
          refine ⟨⟨fun l => ?_, fun w hw => ?_, c5.2, c6.1, c6.2, c7.1, c7.2, c8.1, c8.2, c9.1, c9.2, c10.1, c10.2, c11.2,
            c12.1, c12.2, c13.2⟩, ?_, fun ha => ?_⟩
          · cases l
            · exact c1
            · exact c2
            · exact c3
          · have hoff := settleOffset_mod n.offset
            dsimp only at hw
            split at hw
            · cases hw
              show (BitVec.ofNat 12 (settleOffset n.offset)).toNat % 4 = 0
              rw [BitVec.toNat_ofNat, Nat.mod_eq_of_lt hoff.2]
              exact hoff.1
            · cases hw
          · dsimp only
            split <;> simp_all
          · have hpow : action = .powerOff := ha
            simpa [hpow] using haction
  · cases hq

theorem State.Steady.setPlan_fine : s.setPlan.Fine s := by
  refine h.withSlot_fine hr fun i => ?_
  split
  · exact h.refuse_fine hr _
  · next q hq =>
    refine h.modSlot_fine hr (.of_traffic rfl fun hd => ?_) .of_eq _ _
    obtain ⟨hb, hdis, ⟨h1, h2, h3, h4, h5, h6, h7, h8, h9, h10, h11, -, h13⟩, hat⟩ := hd
    exact ⟨hb, hdis, ⟨h1, h2, h3, h4, h5, h6, h7, h8, h9, h10, h11, settlePlan_usable (s := s) hq, h13⟩, hat⟩

/-! ### Scripts -/

theorem State.Steady.modScript_fine (i : SlotId) {f : ScriptStore → ScriptStore}
    (hf : ∀ sc : ScriptStore, sc.stagingLength ≤ 64 ∧ sc.active.length ≤ 64 →
      (f sc).stagingLength ≤ 64 ∧ (f sc).active.length ≤ 64) (code : Result) (l : List Dword) :
    ((s.modScript i f).done code l).Fine s :=
  h.modSlot_fine hr (.of_traffic rfl fun hd => hd.with_script (hf _ hd.bounded.2.2.2)) .of_fields _ _

theorem State.Steady.loadStep_fine : s.loadStep.Fine s := by
  refine h.withSlot_fine hr fun i => .ite (fun _ => h.refuse_fine hr _) fun _ => ?_
  split
  · exact h.refuse_fine hr _
  · next st _ =>
    exact h.modScript_fine hr i
      (f := fun sc => { sc with staging := sc.staging.setIfInBounds (field (s.param 0) 0 8) st }) (fun _ => id) _ _

theorem State.Steady.setScriptLength_fine : s.setScriptLength.Fine s :=
  h.withSlot_fine hr fun i =>
    h.modScript_fine hr i (f := fun sc => sc.setLength (clampTo 0 Config.scriptSteps (s.param 0).toNat))
      (fun _ hsc => ⟨(clampTo_mem 0 64 _ (by decide)).2, hsc.2⟩) _ _

theorem State.Steady.commitScript_fine : s.commitScript.Fine s := by
  refine h.withSlot_fine hr fun i => .ite (fun _ => h.done_fine hr _ _) fun _ => .ite (fun _ => ?_) fun _ => ?_
  · exact h.modScript_fine hr i (f := fun sc => { sc with commitPending := true }) (fun _ => id) _ _
  · exact h.modScript_fine hr i (fun _ hsc => ScriptStore.commit_bounded hsc.1) _ _

theorem State.Steady.setCapture_fine : s.setCapture.Fine s :=
  h.withSlot_fine hr fun i =>
    h.modScript_fine hr i (f := fun sc => { sc with capture := bit (s.param 0) 0, overflow := false }) (fun _ => id) _ _

/-! ### The sequencer -/

theorem State.Steady.admitCommand_fine : s.admitCommand.Fine s := by
  refine h.withSlot_fine hr fun i => .ite (fun ⟨hst, hk⟩ => ?_) fun _ => h.refuse_fine hr _
  refine (s.admitSlot_calm i).done_fine (h.of_calm (i := i) (s.admitSlot_calm i) ?_) hr _ _
  exact (h.fitsBut i).admitSlot (h.fits i).unkilled.weaken (h.grants i) hk hst

theorem State.Steady.isolate_fine : s.isolate.Fine s :=
  h.withSlot_fine hr fun i => .ite (fun hst => (s.tripNow_calm i _).done_fine (h.tripNow hst _) hr _ _) fun _ =>
    h.refuse_fine hr _

theorem State.Steady.recover_fine : s.recover.Fine s := by
  refine h.withSlot_fine hr fun i => .ite (fun ⟨hst, hk⟩ => ?_) fun _ => h.refuse_fine hr _
  refine (s.recoverSlot_calm i).done_fine (h.of_calm (i := i) (s.recoverSlot_calm i) ?_) hr _ _
  exact (h.fitsBut i).recoverSlot (h.fits i).unkilled.weaken (h.grants i) hk hst

theorem State.Steady.hold_fine : s.hold.Fine s := by
  refine h.withSlot_fine hr fun i => .ite (fun hst => ?_) fun _ => h.refuse_fine hr _
  have hc : (s.slot i).Calm { s.slot i with seq := { (s.slot i).seq with held := true } } := .of_eq
  refine (s.modSlot_calm i hc).done_fine (h.modSlot hc.mild ?_ rfl) hr _ _
  obtain ⟨⟨s1, s2, -, s4, s5, s6, s7, s8⟩, h2, h3, h4, h5, h6, h7, h8⟩ := h.fits i
  exact ⟨⟨s1, s2, fun _ => hst, s4, s5, s6, fun hw => ⟨(s7 hw).1, rfl⟩, s8⟩, h2, h3, h4, h5, h6, h7, h8⟩

omit h hr in
/-- A slot that RESUME has reached, but for the mark that an access is withheld: RESUME leaves that mark where it finds
no access to issue. -/
def Slot.unheld (p : Slot) : Slot := { p.resume with exec := { p.resume.exec with withheld := false } }

omit h hr in
/-- RESUME changes HELD and the executor alone, and puts an access in flight only where one was withheld (R117). -/
theorem Slot.resume_spec (p : Slot) : p.resume = { p.clearHeld with exec := p.resume.exec } ∧
    (p.resume.exec.inFlight.isSome = true → p.exec.inFlight.isSome = true ∨ p.exec.withheld = true) := by
  unfold Slot.resume
  split
  · next hw =>
    refine ⟨?_, fun _ => .inr hw⟩
    obtain he | he | ⟨a, -, -, he⟩ := Slot.issue_spec (p := p.clearHeld) <;> rw [he]
  · exact ⟨rfl, .inl⟩

omit h hr in
theorem Slot.Fits.unheld {p : Slot} {d k : Bool} (h : p.Fits d k) : p.unheld.Fits d k := by
  obtain ⟨he, hx⟩ := p.resume_spec
  obtain ⟨⟨s1, s2, s3, s4, s5, s6, s7, s8⟩, h2, h3, h4, h5, h6, h7, h8⟩ := h
  unfold Slot.unheld
  rw [he]
  exact ⟨⟨s1, s2, nofun, s4, s5, fun hi => (hx hi).elim s6 fun hw => (s7 hw).1, nofun, s8⟩, h2, h3, h4, h5, h6, h7, h8⟩

/-- RESUME but for the withheld mark. -/
theorem State.Steady.unheld_fine (i : SlotId) : ((s.modSlot i Slot.unheld).done .ok []).Fine s := by
  have hc : (s.slot i).Calm (s.slot i).unheld := (s.slot i).resume_calm.trans .of_eq
  refine (s.modSlot_calm i hc).done_fine (h.modSlot hc.mild (h.fits i).unheld ?_) hr _ _
  show (s.slot i).resume.seq.phase = _
  rw [(s.slot i).resume_spec.1]
  rfl

theorem State.Steady.abortCommand_fine : s.abortCommand.Fine s :=
  h.withSlot_fine hr fun i => .ite (fun hst => (s.abort_calm i).done_fine (h.abort hst) hr _ _) fun _ => h.refuse_fine hr _

theorem State.Steady.retireCommand_fine : s.retireCommand.Fine s := by
  refine h.withSlot_fine hr fun i => .ite (fun hst => ?_) fun _ => h.refuse_fine hr _
  refine (s.retire_calm i _).done_fine (h.of_calm (i := i) (s.retire_calm i _) ?_) hr _ _
  exact (h.fitsBut i).retireCommand (h.fits i).unkilled.weaken hst _

theorem State.Steady.releaseCommand_fine : s.releaseCommand.Fine s := by
  refine h.withSlot_fine hr fun i => .ite (fun hst => ?_) fun _ => h.refuse_fine hr _
  refine (s.releaseSlot_calm i).done_fine (h.of_calm (i := i) (s.releaseSlot_calm i) ?_) hr _ _
  exact (h.fitsBut i).releaseSlot (h.fits i).unkilled.weaken (h.grants i) hst

/-! ### Reading back -/

theorem State.Steady.querySlot_fine : s.querySlot.Fine s := h.withSlot_fine hr fun _ => h.done_fine hr _ _

theorem State.Steady.readIncident_fine : s.readIncident.Fine s := by
  refine h.withSlot_fine hr fun i => ?_
  split
  · exact h.done_fine hr _ _
  · exact h.done_fine hr _ _
  · exact h.refuse_fine hr _

omit hr in
theorem State.Steady.clearSlotCounters (i : SlotId) :
    (s.clearSlotCounters i).Steady ∧ (s.clearSlotCounters i).debt = s.debt := by
  have hc : (s.slot i).Calm { s.slot i with counters := SlotCounters.zero } :=
    .of_traffic rfl fun hd => hd.with_counters (by decide)
  exact ⟨h.modSlot_same hc.mild .of_fields rfl rfl, (s.modSlot_calm i hc).debt⟩

theorem State.Steady.readCounters_fine : s.readCounters.Fine s := by
  refine h.withSlot_fine hr fun i => ?_
  obtain ⟨hs, hd⟩ := h.clearSlotCounters i
  have hp := hs.of_same (t := (s.clearSlotCounters i).clearPartCounters) fun hx =>
    ⟨(by decide : PartCounters.zero.InRange), hx.2⟩
  dsimp only
  split
  · exact h.done_fine hr _ _
  · exact ⟨hs, hd, hr⟩
  · exact ⟨hp.1, hp.2.trans hd, hr⟩
  · exact h.refuse_fine hr _

end

end Sys2Proof.Machine

/-! SUPPORT. RESET PART, the GO that starts a mailbox command, and every command's event. -/

namespace Sys2Proof.Machine

variable {s t u : State} {i : SlotId}

/-! ### Notices -/

theorem State.Presents.applyNotice (h : s.Presents) (a : Address) (on : Bool) : (s.applyNotice a on).Presents := by
  obtain ⟨h1, h2, h3, h4⟩ := h
  unfold State.applyNotice
  dsimp only
  split
  · next harm =>
    split
    · next hc =>
      refine ⟨h1, h2, h3, fun hu => ?_⟩
      obtain ⟨-, hn⟩ := h4 hu
      exact absurd hc (by simp [hn])
    · next hc => exact State.queueNotice_presents h1 h2 h3 (by simpa using hc) fun _ => harm
  · exact State.withdrawNotice_presents h1

theorem State.Presents.acknowledge (h : s.Presents) (bits : Dword) : (s.acknowledge bits).Presents := by
  obtain ⟨h1, h2, h3, h4⟩ := h
  unfold State.acknowledge
  dsimp only
  split
  · exact State.withdrawNotice_presents h1
  · next hc => exact State.queueNotice_presents h1 h2 h3 (by simpa using hc) fun hu => (h4 hu).1

/-- Two states that differ in notices and what is presented alone. -/
structure State.SameButNotices (s t : State) : Prop where
  slots : t.slots = s.slots := by simp
  head : t.head = s.head := by simp
  saq : t.saq = s.saq := by simp
  kill : t.kill = s.kill := by simp
  railA : t.railA = s.railA := by simp
  railB : t.railB = s.railB := by simp
  counters : t.counters = s.counters := by simp
  time : t.time = s.time := by simp
  health : t.health = s.health := by simp
  waitingAnswer : t.waitingAnswer = s.waitingAnswer := by simp
  resetScope : t.resetScope = s.resetScope := by simp

theorem State.applyNotice_same (s : State) (a : Address) (on : Bool) : s.SameButNotices (s.applyNotice a on) := by
  unfold State.applyNotice
  dsimp only
  split
  · split <;> constructor <;> simp
  · constructor <;> simp

theorem State.acknowledge_same (s : State) (bits : Dword) : s.SameButNotices (s.acknowledge bits) := by
  unfold State.acknowledge
  dsimp only
  split <;> constructor <;> simp

theorem State.SameButNotices.fine (hc : s.SameButNotices t) (h : s.Steady) (hr : s.resetScope = none) (hp : t.Presents)
    (code : Result) (l : List Dword) : (t.done code l).Fine s := by
  have hsl : ∀ j, t.slot j = s.slot j := fun j => by rw [State.slot, hc.slots]; rfl
  have hrange : s.PartInRange → t.PartInRange := by
    simp only [State.PartInRange, hc.counters, hc.time, hc.health, imp_self]
  refine ⟨h.of_presented hp hrange hc.slots hc.head hc.saq hc.kill hc.railA hc.railB, ?_, hc.resetScope.trans hr⟩
  · show t.debt = s.debt
    simp only [State.debt, hsl, hc.head, hc.saq, hc.waitingAnswer]

theorem State.Steady.setNotice_fine (h : s.Steady) (hr : s.resetScope = none) : s.setNotice.Fine s :=
  (s.applyNotice_same _ _).fine h hr (h.presents.applyNotice _ _) _ _

theorem State.Steady.ackNotices_fine (h : s.Steady) (hr : s.resetScope = none) : s.ackNotices.Fine s :=
  (s.acknowledge_same _).fine h hr (h.presents.acknowledge _) _ _

/-! ### RESET PART -/

/-- What the beginning of a RESET PART makes of a slot (R172). -/
def Slot.resetBegun (p : Slot) (now : Ticks) : Slot :=
  if p.seq.state = .empty then p.clearHealth else ((p.closedAs .aborted now).beginReset).clearHealth

theorem State.slot_beginResetSlot (s : State) (i j : SlotId) :
    (s.beginResetSlot i).slot j = if j = i then (s.slot i).resetBegun s.time.now else s.slot j := by
  unfold State.beginResetSlot Slot.resetBegun
  by_cases hj : j = i
  · subst hj
    split <;> simp [State.slot_closeIncident_same]
  · split <;> simp [hj]

theorem State.slot_foldl_beginResetSlot (s : State) (j : SlotId) :
    (SlotId.all.foldl State.beginResetSlot s).slot j = (s.slot j).resetBegun s.time.now := by
  have htime : ∀ (u : State) (k : SlotId), (u.beginResetSlot k).time = u.time := fun u k =>
    (u.beginResetSlot_calm k).quiet.time
  cases j <;> simp [SlotId.all, State.slot_beginResetSlot, htime]

/-- The beginning of a RESET PART leaves a slot out of service, with no sequence in progress (R172). -/
theorem Slot.Fits.resetBegun {p : Slot} {d k : Bool} (h : p.Fits d k) (now : Ticks) :
    (p.resetBegun now).Fits d k ∧ (p.resetBegun now).seq.phase = none ∧
      ((p.resetBegun now).seq.state = .offline ∨ (p.resetBegun now).seq.state = .empty) := by
  let q := ((p.closedAs .aborted now).stopSequence.setState .offline).clearHeld
  have hend : ∀ g : Slot, p.seq.state ≠ .empty → g.seq = q.seq → g.lines = p.lines → g.exec = q.exec →
      g.previous = p.previous → g.current.outcome ≠ .pending → g.HeadAwaits →
      g.fenceAll.clearHealth.Fits d k ∧ g.fenceAll.clearHealth.seq.phase = none ∧
        (g.fenceAll.clearHealth.seq.state = .offline ∨ g.fenceAll.clearHealth.seq.state = .empty) := by
    intro g hne h1 h2 h3 h4 ho hw
    have hseat : g.Seated := (h.seated hne).congr (by rw [h2]) (by rw [h2]) (.inl (by rw [h2])) h4
    have hseq : g.fenceAll.clearHealth.seq = q.seq := h1
    have hexec : g.fenceAll.clearHealth.exec = q.exec := h3
    have hhalt : g.fenceAll.clearHealth.Halted := by
      constructor <;> simp only [hseq, hexec] <;> simp [q]
    refine ⟨.of_rest ⟨hseat.congr rfl rfl (.inl rfl) rfl, g.fenceAll_liveCount, hw⟩ hhalt ?_ ?_ ?_ ho ?_, hhalt.phase, ?_⟩
    all_goals rw [hseq]; simp [q, Slot.closedAs]
  have hout := p.closedAs_outcome (oc := .aborted) now (by simp)
  unfold Slot.resetBegun
  split
  · next hs =>
    refine ⟨h.of_queues (Slot.clearHealth_control p) rfl rfl, ?_, .inr hs⟩
    obtain ⟨hh, -, -⟩ := h.halted (by simp [hs, SlotState.inSequence])
    exact hh.phase
  · next hs =>
    unfold Slot.beginReset
    dsimp only
    split
    · refine hend _ hs (by simp [q]) (by simp [Slot.closedAs]) (by simp [q]) (by simp [Slot.closedAs]) ?_
        (Slot.closeGates_awaits _)
      rw [(Slot.closeGates_record _).1]
      simpa using hout
    · next hserv =>
      have hw := h.awaits (by simpa [Slot.closedAs, Slot.serving] using hserv)
      refine hend _ hs rfl (by simp [Slot.closedAs]) rfl (by simp [Slot.closedAs]) (by simpa using hout) ?_
      simpa [Slot.HeadAwaits, Slot.closedAs] using hw

/-- The beginning of a RESET PART: each slot stops, the SAQ's items lose their marks, both rails are free (R172). -/
theorem State.beginReset_spec (s : State) : ∃ t, s.Calm t ∧ (∀ j, t.slot j = (s.slot j).resetBegun s.time.now) ∧
    s.beginReset =
      { t with
        saq := t.saq.map fun item => { item with ofReset := false }
        railA := Rail.free
        railB := Rail.free
        resetScope := some s.nonEmptySlots } :=
  ⟨SlotId.all.foldl State.beginResetSlot s, s.foldl_calm State.beginResetSlot_calm _, s.slot_foldl_beginResetSlot, rfl⟩

/-- RESET PART begins, with the mailbox BUSY: every slot is out of service, and the SAQ keeps its items (R172). -/
theorem State.Steady.beginReset (h : s.Steady) : s.beginReset.Steady ∧ s.beginReset.debt = s.debt ∧
    ∀ j, (s.beginReset.slot j).seq.state = .offline ∨ (s.beginReset.slot j).seq.state = .empty := by
  obtain ⟨t, hcalm, hslot, he⟩ := s.beginReset_spec
  have hfit := fun j => (h.fits j).resetBegun s.time.now
  have hs : ∀ j, s.beginReset.slot j = t.slot j := fun j => by rw [he]; rfl
  have hrail : ∀ r, s.beginReset.rail r = Rail.free := fun r => by rw [he]; cases r <;> rfl
  have hkill : s.beginReset.kill = s.kill := by rw [he]; exact hcalm.quiet.kill
  refine ⟨⟨fun j => ?_, fun j => ?_, fun j => ?_, fun r => ?_, ?_, fun j n => ?_, ?_, ?_, ?_⟩, ?_, fun j => ?_⟩
  · rw [hs]; exact (hcalm.slots j).data (h.data j)
  · rw [hs, hslot, hkill]; exact (hfit j).1
  · simp [State.GrantOk, hs, hslot, (hfit j).2.1, hrail, grantPhase, Rail.free]
  · simp [State.RailOk, hrail, Rail.free]
  · simp only [he, List.length_map, hcalm.quiet.saq]
    exact h.saq
  · rw [hs, (hcalm.slots j).answering, ← h.owners j n]
    simp only [he, hcalm.quiet.saq, List.countP_map]
    rfl
  · rw [State.HeadOk, he, hcalm.quiet.head]; exact h.head
  · rw [he]; exact hcalm.presents h.presents
  · rw [he]; exact hcalm.still.ranges h.ranges
  · rw [← hcalm.debt, he]
    simp [State.debt, State.slot]
  · rw [hs, hslot]; exact (hfit j).2.2

theorem State.Steady.resetPart (h : s.Steady) (hb : s.mailbox.state = .busy) : s.Kept s.resetPart := by
  obtain ⟨hs, hd, hi⟩ := h.beginReset
  obtain ⟨t, hcalm, -, he⟩ := s.beginReset_spec
  have hm : s.beginReset.mailbox = s.mailbox := by rw [he]; exact hcalm.quiet.mailbox
  have hscope : s.beginReset.resetScope.isSome = true := by rw [he]; rfl
  have hk := hs.settleReset ⟨fun _ => hscope, fun _ => hm ▸ hb⟩ fun _ => hi
  exact ⟨hk.1, hk.2.trans hd⟩

end Sys2Proof.Machine

/-! SUPPORT. The GO, every mailbox command's event, and trunk ingress. RESUME alone may leave a state that is not sound:
where it finds no access to issue, the mark that one is withheld outlives HELD. `State.Safe` is what every command keeps. -/

namespace Sys2Proof.Machine

variable {s t u : State} {i : SlotId}

/-! ### What every command keeps -/

/-- Every invariant but `State.Sequenced`. -/
structure State.Safe (s : State) : Prop where
  bounded   : s.Bounded
  distinct  : s.OrtDistinct
  owners    : s.OwnersAnswering
  head      : s.HeadOk
  noPosted  : s.NoPostedHeads
  lined     : s.Lined
  killed    : s.Killed
  live      : s.LiveFits
  sample    : s.WithinSample
  recorded  : s.Recorded
  presents  : s.Presents
  busy      : s.BusyFits
  inRange   : s.InRange

theorem State.Sound.safe (h : s.Sound) : s.Safe :=
  ⟨h.bounded, h.distinct, h.owners, h.head, h.noPosted, h.lined, h.killed, h.live, h.sample, h.recorded, h.presents, h.busy,
    h.inRange⟩

/-- After the command every invariant but `State.Sequenced` holds, and the host is owed the same. -/
def State.Nearly (s t : State) : Prop := t.Safe ∧ t.debt = s.debt

theorem State.Kept.nearly (h : s.Kept t) : s.Nearly t := ⟨h.1.safe, h.2⟩

/-- Two states that differ in the executors alone. -/
structure State.SameButExec (s t : State) : Prop where
  slots : ∀ j, ∃ x, t.slot j = { s.slot j with exec := x }
  rest : t = { s with slots := t.slots }

/-- None of these invariants speaks of the executors, and nothing is owed by them. -/
theorem State.Safe.of_exec (hs : s.Safe) (he : s.SameButExec t) : s.Nearly t := by
  obtain ⟨he, hrest⟩ := he
  have hslot : ∀ {P : Slot → Prop} (j), (∀ p : Slot, ∀ x, P p → P { p with exec := x }) → P (s.slot j) → P (t.slot j) := by
    intro P j hP hp
    obtain ⟨x, hx⟩ := he j
    rw [hx]; exact hP _ _ hp
  have hfield : ∀ {α : Type} (g : Slot → α) (j), (∀ p : Slot, ∀ x, g { p with exec := x } = g p) → g (t.slot j) = g (s.slot j) := by
    intro α g j hg
    obtain ⟨x, hx⟩ := he j
    rw [hx, hg]
  have hans : ∀ j n, (t.slot j).answeringAt n = (s.slot j).answeringAt n := fun j n =>
    hfield (Slot.answeringAt · n) j fun _ _ => rfl
  have hst : ∀ j, (t.slot j).seq = (s.slot j).seq := fun j => hfield Slot.seq j fun _ _ => rfl
  have howe : ∀ j, (t.slot j).nothingOwed = (s.slot j).nothingOwed := fun j => hfield Slot.nothingOwed j fun _ _ => rfl
  have hdebt : ∀ j, (t.slot j).debt = (s.slot j).debt := fun j => hfield Slot.debt j fun _ _ => rfl
  have hsaq : t.saq = s.saq := by rw [hrest]
  have hscope : t.resetScope = s.resetScope := by rw [hrest]
  refine ⟨⟨⟨?_, fun j => ?_⟩, fun j => ?_, ?_, ?_, fun j => ?_, fun j => ?_, fun hk j => ?_, fun j => ?_, fun j => ?_,
    fun j => ?_, ?_, ?_, ⟨fun j => ?_, ?_⟩⟩, ?_⟩
  · rw [hsaq]; exact hs.bounded.1
  · exact hslot j (fun _ _ h => h) (hs.bounded.2 j)
  · exact hslot j (fun _ _ h => h) (hs.distinct j)
  · refine t.ownersAnswering_iff.2 fun j n => ?_
    rw [hsaq, hans]; exact s.ownersAnswering_iff.1 hs.owners j n
  · rw [hrest]; exact hs.head
  · exact hslot j (fun _ _ h => h) (hs.noPosted j)
  · exact hslot j (fun _ _ h => h) (hs.lined j)
  · rw [hrest] at hk
    exact hslot (P := fun p => p.serving = false ∧ p.seq.state ≠ .recovering) j (fun _ _ h => h) (hs.killed hk j)
  · exact hslot j (fun _ _ h => h) (hs.live j)
  · exact hslot j (fun _ _ h => h) (hs.sample j)
  · exact hslot j (fun _ _ h => h) (hs.recorded j)
  · rw [hrest]; exact hs.presents
  · exact hs.busy.of_owes (by rw [hrest]) hscope fun hr j => by rw [hst, howe]; exact ⟨(hs.busy.2 hr).2 j, id⟩
  · exact hslot j (fun _ _ h => h) (hs.inRange.1 j)
  · rw [hrest]; exact hs.inRange.2
  · simp only [State.debt_eq, hdebt, State.otherDebt, hsaq]
    rw [hrest]

/-! ### The commands -/

/-- What the rules of a mailbox command begin from: a steady state whose mailbox a GO has made BUSY. -/
structure State.Begun (s : State) : Prop where
  steady : s.Steady
  scope : s.resetScope = none
  busy : s.mailbox.state = .busy

theorem State.Begun.resume (h : s.Begun) : s.Nearly s.resume.complete := by
  obtain ⟨hs, hr, -⟩ := h
  unfold State.resume State.withSlot
  split
  · next i _ =>
    dsimp only
    split
    · have hk := (hs.unheld_fine hr i).complete
      have he : State.SameButExec ((s.modSlot i Slot.unheld).done .ok []).complete
          ((s.modSlot i Slot.resume).done .ok []).complete := by
        refine ⟨fun j => ?_, rfl⟩
        show ∃ x, (s.modSlot i Slot.resume).slot j = { (s.modSlot i Slot.unheld).slot j with exec := x }
        by_cases hj : j = i
        · subst hj
          exact ⟨(s.slot j).resume.exec, by simp [Slot.unheld]⟩
        · exact ⟨(s.slot j).exec, by simp [hj]⟩
      obtain ⟨hsafe, hdebt⟩ := hk.1.safe.of_exec he
      exact ⟨hsafe, hdebt.trans hk.2⟩
    · exact (hs.refuse_fine hr _).complete.nearly
  · exact (hs.refuse_fine hr _).complete.nearly

/-- Whatever command a code names, its effect keeps what every command keeps. -/
theorem State.Begun.command (h : s.Begun) {code : Nat} {effect : State → State} (he : commandEffect? code = some effect) :
    s.Nearly (effect s) := by
  have hr := h.scope
  have hs := h.steady
  unfold commandEffect? at he
  split at he
  all_goals simp only [Option.some.injEq, reduceCtorEq] at he
  all_goals subst he
  · exact (hs.setWindow_fine hr).complete.nearly
  · exact (hs.commitWindows_fine hr).complete.nearly
  · exact (hs.setSlotBus_fine hr).complete.nearly
  · exact (hs.setPlan_fine hr).complete.nearly
  · exact (hs.setLimits_fine hr).complete.nearly
  · exact (hs.setMonitor_fine hr).complete.nearly
  · exact (hs.setVisit_fine hr).complete.nearly
  · exact (hs.setTimebase_fine hr).complete.nearly
  · exact (hs.loadStep_fine hr).complete.nearly
  · exact (hs.setScriptLength_fine hr).complete.nearly
  · exact (hs.commitScript_fine hr).complete.nearly
  · exact (hs.setCapture_fine hr).complete.nearly
  · exact (hs.admitCommand_fine hr).complete.nearly
  · exact (hs.isolate_fine hr).complete.nearly
  · exact (hs.recover_fine hr).complete.nearly
  · exact (hs.hold_fine hr).complete.nearly
  · exact h.resume
  · exact (hs.abortCommand_fine hr).complete.nearly
  · exact (hs.retireCommand_fine hr).complete.nearly
  · exact (hs.releaseCommand_fine hr).complete.nearly
  · exact (hs.querySlot_fine hr).complete.nearly
  · exact (hs.readIncident_fine hr).complete.nearly
  · exact (hs.readCounters_fine hr).complete.nearly
  · exact (hs.setNotice_fine hr).complete.nearly
  · exact (hs.ackNotices_fine hr).complete.nearly
  · exact (hs.resetPart h.busy).nearly

theorem State.Begun.unknownCommand (h : s.Begun) : s.Nearly s.unknownCommand :=
  (h.steady.refuse_fine h.scope _).complete.nearly

/-! ### The GO -/

/-- The ingress head is taken. -/
theorem State.Steady.clearHead (h : s.Steady) : s.clearHead.Steady :=
  ⟨h.data, h.fits, h.grants, h.rails, h.saq, h.owners, by simp [State.HeadOk, State.clearHead], h.presents, h.ranges⟩

theorem State.clearHead_debt {hd : IngressHead} (hh : s.head = some hd) :
    s.debt = s.clearHead.debt + if nonPosted hd.tx then 1 else 0 := by
  have hc : s.clearHead.debt = 0 + ((s.slot .s0).debt + (s.slot .s1).debt + (s.slot .s2).debt + (s.slot .s3).debt) +
    s.saq.length + (if s.waitingAnswer.isSome then 1 else 0) := rfl
  rw [hc]
  simp only [State.debt, hh]
  omega

/-- What a head held for the Management Function becomes: an answer that waits, one debt for another. -/
theorem State.Steady.answered (h : s.Steady) {hd : IngressHead} (hh : s.head = some hd) (hn : nonPosted hd.tx = true)
    (hw : s.waitingAnswer = none) (r : Requester) (t : Tag) (d : Option Dword) :
    (s.clearHead.giveAnswer r t d).Steady ∧ (s.clearHead.giveAnswer r t d).debt = s.debt := by
  obtain ⟨-, h2, -, h4⟩ := h.presents
  have hp : (s.clearHead.giveAnswer r t d).Presents := State.present_presents (fun _ => rfl) h2 h4
  rw [State.giveAnswer_eq] at hp ⊢
  refine ⟨h.clearHead.of_presented hp id, ?_⟩
  rw [State.clearHead_debt hh, hn]
  simp [State.debt, State.clearHead, State.slot, hw]

/-- The Management Function answers, and the mailbox stands. -/
theorem State.Sound.kept_answered (h : s.Sound) {hd : IngressHead} (hh : s.head = some hd) (hn : nonPosted hd.tx = true)
    (hw : s.waitingAnswer = none) (r : Requester) (t : Tag) (d : Option Dword) : s.Kept (s.clearHead.giveAnswer r t d) := by
  obtain ⟨hs, hd⟩ := h.steady.answered hh hn hw r t d
  refine ⟨hs.sound ?_, hd⟩
  rw [State.giveAnswer_eq]
  exact h.busy.of_owes rfl rfl fun hr j => ⟨(h.busy.2 hr).2 j, id⟩

/-- The mailbox changes, and its state does not. -/
theorem State.Kept.with_mailbox (h : s.Kept t) (m : Mailbox) (hm : m.state = t.mailbox.state) :
    s.Kept { t with mailbox := m } :=
  ⟨(h.1.steady.with_mailbox m).sound (h.1.busy.of_owes hm rfl fun hr j => ⟨(h.1.busy.2 hr).2 j, id⟩), h.2⟩

/-- A GO at the ingress head that can be taken. -/
theorem State.goHead_some {r : Requester} {t : Tag} (h : s.goHead = some (r, t)) :
    ∃ g off be d, s.head = some { tx := .cfgWrite r t g off be d, dest := .management } ∧ isGo off be = true ∧
      s.waitingAnswer = none := by
  unfold State.goHead at h
  split at h
  · next r' t' g off be d hh =>
    split at h
    · next hc =>
      cases h
      obtain ⟨hgo, hw⟩ := Bool.and_eq_true_iff.1 hc
      exact ⟨g, off, be, d, hh, hgo, by simpa using hw⟩
    · cases h
  · cases h

/-- The mailbox takes a GO that it is not too busy for. -/
theorem State.Steady.begun (h : s.Steady) (hr : s.resetScope = none) : s.startGo.Begun :=
  ⟨h.with_mailbox _, hr, rfl⟩

/-- A GO that finds the mailbox not BUSY begins its command. -/
theorem State.Sound.nearly_go (h : s.Sound) {hd : IngressHead} (hh : s.head = some hd) (hn : nonPosted hd.tx = true)
    (hw : s.waitingAnswer = none) (hm : s.mailbox.state ≠ .busy) (r : Requester) (t : Tag) {effect : State → State}
    (he : ∀ u : State, u.Begun → u.Nearly (effect u)) : s.Nearly (effect (s.beginGo r t)) := by
  have hk := h.kept_answered hh hn hw r t none
  have hr : (s.clearHead.giveAnswer r t none).resetScope = none := by
    rw [State.giveAnswer_eq]; exact h.busy.none_of_not_busy hm
  obtain ⟨hsafe, hdebt⟩ := he _ (hk.1.steady.begun hr)
  exact ⟨hsafe, hdebt.trans hk.2⟩

theorem State.Sound.nearly_runGo (h : s.Sound) (code : Nat) {effect : State → State}
    (he : ∀ u : State, u.Begun → u.Nearly (effect u)) : s.Nearly (s.runGo code effect) := by
  unfold State.runGo
  split
  · next r t hg =>
    obtain ⟨g, off, be, d, hh, -, hw⟩ := State.goHead_some hg
    split
    · next hc => exact h.nearly_go hh rfl hw hc.1 r t he
    · exact h.kept.nearly
  · exact h.kept.nearly

/-- Whatever state a command leads to, it is safe and owes the host the same. -/
def State.NearlyBy (s : State) (o : Host.Outcome State Fault Refusal) : Prop := ∀ t, o = .next t → s.Nearly t

theorem State.Nearly.by (h : s.Nearly t) : s.NearlyBy (.next t) := by
  intro u hu
  cases hu
  exact h

theorem State.KeptBy.nearly {o : Host.Outcome State Fault Refusal} (h : s.KeptBy o) : s.NearlyBy o :=
  fun t ht => (h t ht).nearly

/-- The event of a mailbox command. -/
theorem State.Sound.nearly_command (h : s.Sound) {code : Nat} {effect : State → State}
    (he : commandEffect? code = some effect) : s.NearlyBy (.next (s.runGo code effect)) :=
  (h.nearly_runGo code fun _ hu => hu.command he).by

theorem execUnknownCommand_nearly (h : s.Sound) : s.NearlyBy (execUnknownCommand s) := by
  refine State.Nearly.by ?_
  split
  · exact h.nearly_runGo _ fun _ hu => hu.unknownCommand
  · exact h.kept.nearly

theorem execGoLost_kept (h : s.Sound) : s.KeptBy (execGoLost s) := by
  refine State.Kept.by ?_
  split
  · next r t hg =>
    obtain ⟨g, off, be, d, hh, -, hw⟩ := State.goHead_some hg
    exact .ite (fun _ => (h.kept_answered hh rfl hw r t none).with_mailbox _ rfl) fun _ => h.kept
  · exact h.kept

/-! ### Trunk ingress -/

theorem Mailbox.writeArea_state (m : Mailbox) (off : Offset) (be : ByteEnables) (d : Dword) :
    (m.writeArea off be d).state = m.state := by
  unfold Mailbox.writeArea
  split <;> rfl

/-- A CONFIG WRITE for the Management Function is answered and applied. -/
theorem State.Sound.nearly_writeConfig (h : s.Sound) {r : Requester} {t : Tag} {g : Target} {off : Offset}
    {be : ByteEnables} {d : Dword} (hh : s.head = some { tx := .cfgWrite r t g off be d, dest := .management })
    (hw : s.waitingAnswer = none) : s.Nearly ((s.clearHead.giveAnswer r t none).writeConfig off be d) := by
  have hk := h.kept_answered hh rfl hw r t none
  have hmail : (s.clearHead.giveAnswer r t none).mailbox = s.mailbox := by rw [State.giveAnswer_eq]; rfl
  unfold State.writeConfig
  split
  · split
    · exact (hk.with_mailbox { (s.clearHead.giveAnswer r t none).mailbox with goLost := true } rfl).nearly
    · next hm =>
      refine h.nearly_go hh rfl hw (hmail ▸ hm) r t (effect := State.runCommand) fun u hu => ?_
      unfold State.runCommand
      split
      · next effect he => exact hu.command he
      · exact hu.unknownCommand
  · exact (hk.with_mailbox _ (Mailbox.writeArea_state ..)).nearly

theorem execConfigSpaceWrite_nearly (h : s.Sound) : s.NearlyBy (execConfigSpaceWrite s) := by
  refine State.Nearly.by ?_
  split
  · next hh =>
    split
    · next hc =>
      refine h.nearly_writeConfig hh ?_
      simpa using (Bool.and_eq_true_iff.1 hc).2
    · exact h.kept.nearly
  · exact h.kept.nearly

/-- Posted traffic is discarded, and what follows counts it. -/
theorem State.Sound.kept_discarded (h : s.Sound) {hd : IngressHead} (hh : s.head = some hd)
    (hn : nonPosted hd.tx = false) : s.Kept s.clearHead := by
  refine ⟨h.steady.clearHead.sound (h.busy.of_owes rfl rfl fun hr j => ⟨(h.busy.2 hr).2 j, id⟩), ?_⟩
  rw [State.clearHead_debt hh, hn]
  rfl

/-- A non-posted head joins the SAQ as an item that no entry owns. -/
theorem State.Sound.kept_appendSaq (h : s.Sound) {hd : IngressHead} (hh : s.head = some hd) (hn : nonPosted hd.tx = true)
    {item : SaqItem} (ho : item.owner = none) (hroom : s.saqRoom = true) : s.Kept (s.clearHead.appendSaq item) := by
  have hs := h.steady.clearHead
  have hlen : (s.clearHead.appendSaq item).saq.length ≤ 64 := by
    have hr : s.saq.length < 64 := of_decide_eq_true hroom
    simpa [State.appendSaq, State.clearHead] using hr
  have hown : ∀ j n, ((s.clearHead.appendSaq item).saq.countP fun it => it.owner == some { slot := j, entry := n }) =
      ((s.clearHead.appendSaq item).slot j).answeringAt n := fun j n => by
    have hcount : ∀ it : SaqItem, it.owner = none → [it].countP (fun it => it.owner == some { slot := j, entry := n }) = 0 :=
      fun it h => by simp [h]
    show (s.saq ++ [item]).countP _ = (s.slot j).answeringAt n
    rw [List.countP_append, hcount item ho]
    exact h.steady.owners j n
  refine ⟨State.Steady.sound ⟨hs.data, hs.fits, hs.grants, hs.rails, hlen, hown, hs.head, hs.presents, hs.ranges⟩
    (h.busy.of_owes rfl rfl fun hr j => ⟨(h.busy.2 hr).2 j, id⟩), ?_⟩
  rw [State.clearHead_debt hh, hn]
  have hd : ∀ l : List SaqItem, State.debt { s.clearHead with saq := l } =
    0 + ((s.slot .s0).debt + (s.slot .s1).debt + (s.slot .s2).debt + (s.slot .s3).debt) +
      l.length + (if s.waitingAnswer.isSome then 1 else 0) := fun _ => rfl
  show State.debt { s.clearHead with saq := s.saq ++ [item] } = State.debt { s.clearHead with saq := s.saq } + 1
  rw [hd, hd, List.length_append, List.length_singleton]
  omega

/-- Only the part's own counters change. -/
theorem State.Sound.kept_counters (h : s.Sound) {c : PartCounters} (hc : c.InRange) : s.Kept { s with counters := c } :=
  ⟨(h.steady.of_same (t := { s with counters := c }) fun hr => ⟨hc, hr.2⟩).1.sound
    (h.busy.of_owes rfl rfl fun hr j => ⟨(h.busy.2 hr).2 j, id⟩), rfl⟩

theorem State.Sound.kept_countUnrouted (h : s.Sound) : s.Kept s.countUnrouted := by
  obtain ⟨⟨-, h2⟩, -⟩ := h.steady.ranges
  exact h.kept_counters ⟨satAdd_le .., h2⟩

theorem State.Sound.kept_countRights (h : s.Sound) : s.Kept s.countRights := by
  obtain ⟨⟨h1, -, h3⟩, -⟩ := h.steady.ranges
  exact h.kept_counters ⟨h1, satAdd_le .., h3⟩

theorem nonPosted_of_unsupportedItem {tx : Transaction} {item : SaqItem} (h : unsupportedItem tx = some item) :
    nonPosted tx = true ∧ item.owner = none := by
  obtain ⟨k, hk, rfl⟩ := Option.map_eq_some_iff.1 h
  refine ⟨?_, rfl⟩
  cases hn : nonPosted tx
  · simp [unsupportedItem_none hn] at h
  · rfl

theorem State.Sound.kept_takeSynthetic (h : s.Sound) {hd : IngressHead} (hh : s.head = some hd) {count : State → State}
    (hc : ∀ u : State, u.Sound → u.Kept (count u)) : s.Kept (s.takeSynthetic hd.tx count) := by
  unfold State.takeSynthetic
  split
  · next item hi =>
    obtain ⟨hn, ho⟩ := nonPosted_of_unsupportedItem hi
    refine .ite (fun hroom => ?_) fun _ => h.kept
    have hk := h.kept_appendSaq hh hn ho hroom
    exact hk.trans (hc _ hk.1)
  · next hi =>
    have hn : nonPosted hd.tx = false := by
      cases hn : nonPosted hd.tx
      · rfl
      · obtain ⟨k, hk⟩ := (nonPosted_iff_key _).1 hn
        simp [unsupportedItem, hk] at hi
    have hk := h.kept_discarded hh hn
    exact hk.trans (hc _ hk.1)

/-- A head that joins its slot's Send Queue. -/
theorem State.Sound.kept_takeServing (h : s.Sound) {hd : IngressHead} (hh : s.head = some hd)
    (hs : (s.slot i).serving = true) : s.Kept (s.takeServing i hd.tx) := by
  refine .ite (fun hlen => ?_) fun _ => h.kept
  have hst := h.steady.clearHead
  let q : Slot := { s.slot i with traffic := { (s.slot i).traffic with
    sendQueue := (s.slot i).traffic.sendQueue ++ [hd.tx] } }
  have hdr : (s.slot i).seq.state ≠ .draining := fun hc => by simp [Slot.serving, hc, SlotState.serving] at hs
  have hfit : q.Fits false s.kill := (h.steady.fits i).of_same (p := s.slot i) (q := q) .of_fields (fun _ => .inl hs)
    (fun _ hd => absurd hd hdr) fun hn => absurd (show (s.slot i).serving = false from hn) (by simp [hs])
  have hdata : q.DataOk := (h.steady.data i).with_traffic (by
    rw [List.length_append]; exact hlen) (h.steady.data i).bounded.2.1 (.refl _) (.refl _)
  have hself : (s.clearHead.modSlot i fun _ => q).slot i = q := State.slot_modSlot_same ..
  have hothers : ∀ j, j ≠ i → (s.clearHead.modSlot i fun _ => q).slot j = s.slot j := fun j hj =>
    State.slot_modSlot_ne _ _ _ _ hj
  have hmild : ∀ (P : Slot → Prop) j, P q → P (s.slot j) → P ((s.clearHead.modSlot i fun _ => q).slot j) := by
    intro P j hq hj
    by_cases he : j = i
    · subst he; rw [hself]; exact hq
    · rw [hothers j he]; exact hj
  have hphase : ∀ j, ((s.clearHead.modSlot i fun _ => q).slot j).seq.phase = (s.slot j).seq.phase := fun j => by
    by_cases he : j = i
    · subst he; rw [hself]
    · rw [hothers j he]
  have hans : ∀ j n, ((s.clearHead.modSlot i fun _ => q).slot j).answeringAt n = (s.slot j).answeringAt n := fun j n => by
    by_cases he : j = i
    · subst he; rw [hself]; rfl
    · rw [hothers j he]
  have hdebt : q.debt = (s.slot i).debt + if nonPosted hd.tx then 1 else 0 := by
    simp only [Slot.debt, q, List.countP_append, List.countP_singleton]
    omega
  have hact := Slot.active_of_serving hs
  have hidle := h.busy.idle_of hact.1 hact.2
  refine ⟨State.Steady.sound (s := s.clearHead.modSlot i fun _ => q) ⟨fun j => hmild _ j hdata (hst.data j),
    hst.fits_of_same rfl hothers (by rw [hself]; exact hfit), hst.grants_of_same (fun _ => rfl) hphase,
    hst.rails_of_same fun _ => rfl, hst.saq, fun j n => (hst.owners j n).trans (hans j n).symm, hst.head, hst.presents,
    hst.ranges⟩ (h.busy.of_owes rfl rfl fun hr => by simp [hidle] at hr), ?_⟩
  rw [State.clearHead_debt hh]
  show (s.clearHead.modSlot i fun _ => q).debt = _
  rw [State.debt_eq, State.debt_eq]
  have hsum := sum_slots_change (f := fun j => (s.slot j).debt)
    (g := fun j => ((s.clearHead.modSlot i fun _ => q).slot j).debt) (a := 0) (b := if nonPosted hd.tx then 1 else 0)
    (fun j hj => by simp only [hothers j hj]) (hself ▸ hdebt : _)
  have ho : (s.clearHead.modSlot i fun _ => q).otherDebt = s.clearHead.otherDebt := rfl
  have hc : ∀ j, (s.clearHead.slot j).debt = (s.slot j).debt := fun _ => rfl
  simp only [hc, ho]
  omega

/-- A head for a slot out of service goes to its containment path. -/
theorem State.Sound.kept_takeContained (h : s.Sound) {hd : IngressHead} (hh : s.head = some hd) :
    s.Kept (s.takeContained i hd.tx) := by
  unfold State.takeContained
  split
  · next hi =>
    have hn : nonPosted hd.tx = false := by
      cases hn : nonPosted hd.tx
      · rfl
      · obtain ⟨k, hk⟩ := (nonPosted_iff_key _).1 hn
        simp [Slot.containmentItem, hk] at hi
    have hk := h.kept_discarded hh hn
    exact hk.trans (hk.1.kept_same (Slot.countDroppedWrites_calm _ _) (Slot.countDroppedWrites_control _ _))
  · next item hi =>
    obtain ⟨ho, hn⟩ := Slot.containmentItem_owner hi
    refine .ite (fun hc => ?_) fun _ => h.kept
    have hk := h.kept_appendSaq hh hn ho (Bool.and_eq_true_iff.1 hc).1
    exact hk.trans (hk.1.kept_same (Slot.countSynthetic_calm _) (Slot.countSynthetic_control _))

/-- A head held for the Management Function is a configuration request or a message. -/
theorem State.Sound.nearly_takeManagement (h : s.Sound) {hd : IngressHead} (hh : s.head = some hd)
    (hdest : hd.dest = .management) : s.Nearly (s.takeManagement hd.tx) := by
  obtain ⟨r, t, g, o, htx⟩ | ⟨r, t, g, o, be, d, htx⟩ | ⟨d, g, htx⟩ := h.head hd hh hdest
  · rw [htx]
    refine State.Kept.nearly (.ite (fun hw => ?_) fun _ => h.kept)
    exact h.kept_answered hh (by rw [htx]; rfl) (by simpa using hw) r t _
  · have hhead : s.head = some { tx := .cfgWrite r t g o be d, dest := .management } := by
      rw [hh, ← htx, ← hdest]
    rw [htx]
    show s.Nearly (if s.waitingAnswer.isNone then _ else _)
    split
    · next hw => exact h.nearly_writeConfig hhead (by simpa using hw)
    · exact h.kept.nearly
  · rw [htx]
    exact (h.kept_discarded hh (by rw [htx]; rfl)).nearly

theorem execIngressTake_nearly (h : s.Sound) : s.NearlyBy (execIngressTake s) := by
  unfold execIngressTake
  cases hh : s.head with
  | none => exact h.kept.nearly.by
  | some hd =>
    refine State.Nearly.by ?_
    dsimp only
    split
    · next hdest => exact h.nearly_takeManagement hh hdest
    · split
      · next hs => exact (h.kept_takeServing hh hs).nearly
      · exact (h.kept_takeContained hh).nearly
    · exact (h.kept_takeSynthetic hh fun _ hu => hu.kept_countUnrouted).nearly
    · exact (h.kept_takeSynthetic hh fun _ hu => hu.kept_countRights).nearly

end Sys2Proof.Machine

/-! SUPPORT. INGRESS_CLASSIFY, the trunk reset and the power-on reset; then what every command and every step keeps. -/

namespace Sys2Proof.Machine

variable {s t u : State} {i : SlotId} {idle killed : SlotId → Bool}

/-! ### INGRESS_CLASSIFY -/

/-- A head for the Management Function is a configuration request or a message. -/
theorem State.classify_management {tx : Transaction} (h : s.classify tx = .management) :
    (∃ r t g o, tx = .cfgRead r t g o) ∨ (∃ r t g o b d, tx = .cfgWrite r t g o b d) ∨ ∃ d g, tx = .message d g := by
  have hwin : ∀ a len right, s.windowDestination a len right ≠ .management := by
    intro a len right
    unfold State.windowDestination
    split
    · simp
    · split
      · split <;> simp
      · simp
  have hbus : ∀ r, s.busDestination r ≠ .management := by
    intro r
    unfold State.busDestination
    split
    · simp
    · split <;> simp
  unfold State.classify at h
  split at h
  · cases h
  · cases tx with
    | memRead r t a len => exact (hwin _ _ _ h).elim
    | memWrite r a len d => exact (hwin _ _ _ h).elim
    | cfgRead r t g o => exact .inl ⟨r, t, g, o, rfl⟩
    | cfgWrite r t g o b d => exact .inr (.inl ⟨r, t, g, o, b, d, rfl⟩)
    | message d g => exact .inr (.inr ⟨d, g, rfl⟩)
    | answer r t st rem fin d => exact (hbus _ h).elim

/-- Ingress lets a transaction in: what it may raise the debt by. -/
theorem execIngressClassify_sound (h : s.Sound) {tx : Transaction} (he : execIngressClassify tx s = .next t) :
    t.Sound ∧ (t.debt = s.debt ∨ t.debt = s.debt + 1 ∧ nonPosted tx = true) := by
  unfold execIngressClassify at he
  split at he
  · next hc =>
    cases he
    have hnone : s.head = none := by simpa using (Bool.and_eq_true_iff.1 hc).2
    refine ⟨State.Steady.sound ⟨h.steady.data, h.steady.fits, h.steady.grants, h.steady.rails, h.steady.saq,
      h.steady.owners, fun hd hh hdest => ?_, h.steady.presents, h.steady.ranges⟩
      (h.busy.of_owes rfl rfl fun hr j => ⟨(h.busy.2 hr).2 j, id⟩), ?_⟩
    · cases hh
      exact State.classify_management hdest
    · have hd : ∀ x : IngressHead, State.debt { s with head := some x } =
          (if nonPosted x.tx then 1 else 0) + ((s.slot .s0).debt + (s.slot .s1).debt + (s.slot .s2).debt + (s.slot .s3).debt) +
            s.saq.length + (if s.waitingAnswer.isSome then 1 else 0) := fun _ => rfl
      rw [hd]
      simp only [State.debt, hnone]
      cases hn : nonPosted tx
      · exact .inl (by simp)
      · exact .inr ⟨by simp; omega, rfl⟩
  · cases he
    exact ⟨h, .inl rfl⟩

/-! ### TRUNK_RESET -/

/-- Everything of a steady state but how slot states, phases and rails agree. -/
structure State.Stocked (s : State) : Prop where
  data : ∀ i, (s.slot i).DataOk
  saq : s.saq.length ≤ 64
  owners : ∀ i n, (s.saq.countP fun it => it.owner == some { slot := i, entry := n }) = (s.slot i).answeringAt n
  head : s.HeadOk
  presents : s.Presents
  ranges : s.PartInRange

theorem State.Stocked.still (h : s.Stocked) (hs : s.Still t) : t.Stocked where
  data i := (hs.slots i).data (h.data i)
  saq := by rw [hs.saq]; exact h.saq
  owners i n := by rw [hs.saq, (hs.slots i).answering]; exact h.owners i n
  head := by simpa only [State.HeadOk, hs.head] using h.head
  presents := hs.presents h.presents
  ranges := hs.ranges h.ranges

theorem State.Stocked.steady (h : s.Stocked) (hf : s.FitsAll (fun _ => false) fun _ => s.kill) : s.Steady :=
  ⟨h.data, hf.fits, hf.grants, hf.rails, h.saq, h.owners, h.head, h.presents, h.ranges⟩

theorem Slot.trunkReset_control (p : Slot) : p.SameControl p.trunkReset := by
  have hq : ∀ (tr : Traffic) (n : Nat), p.SameControl (({ p with traffic := tr } : Slot).countDroppedCardRequests n).reloadStall :=
    fun tr n => Slot.SameControl.trans (q := { p with traffic := tr }) .of_fields
      ((Slot.countDroppedCardRequests_control _ n).trans (Slot.reloadStall_control _))
  exact hq _ _

@[simp] theorem Slot.trunkReset_queues (p : Slot) : p.trunkReset.traffic.sendQueue = [] ∧ p.trunkReset.traffic.ort = [] := by
  simp [Slot.trunkReset]

theorem Slot.trunkReset_data {p : Slot} (h : p.DataOk) : p.trunkReset.DataOk := by
  have hrec : (p.traffic.recvQueue.filter survivesTrunkReset).length ≤ 16 :=
    (List.length_filter_le ..).trans h.bounded.2.1
  exact (Slot.reloadStall_calm _).data ((Slot.countDroppedCardRequests_calm _ _).data
    (h.with_traffic (Nat.zero_le _) hrec (List.nil_sublist _) (List.nil_sublist _)))

/-- A slot's queues and its ORT are empty after a trunk reset: nothing LIVE is left, of a DRAINING slot either. -/
theorem Slot.Fits.trunkReset {p : Slot} {k : Bool} (h : p.Fits false k) : p.trunkReset.Fits true k := by
  obtain ⟨-, ho⟩ := p.trunkReset_queues
  have hlive : p.trunkReset.liveCount = 0 := by rw [Slot.liveCount, ho]; rfl
  refine (h.weaken (d := true)).of_same p.trunkReset_control (fun hl => ?_) nofun fun _ => ?_
  · simp [hlive] at hl
  · simp

/-- The trunk's traffic is lost: nothing is owed but a waiting answer, and a DRAINING slot has nothing to wait for. -/
theorem State.Sound.loseTrunk (h : s.Sound) :
    s.loseTrunk.Stocked ∧ s.loseTrunk.FitsAll (fun _ => true) fun _ => s.loseTrunk.kill := by
  have hslot : ∀ j, s.loseTrunk.slot j = (s.slot j).trunkReset := fun j => by simp [State.loseTrunk, State.slot]
  have hrail : ∀ r, s.loseTrunk.rail r = s.rail r := State.rail_of rfl rfl
  refine ⟨⟨fun j => ?_, Nat.zero_le _, fun j n => ?_, nofun, h.presents, h.steady.ranges⟩, fun j => ?_,
    h.steady.grants_of_same hrail fun j => ?_, h.steady.rails_of_same hrail⟩
  · rw [hslot]; exact Slot.trunkReset_data (h.steady.data j)
  · rw [hslot, Slot.answeringAt, ((s.slot j).trunkReset_queues).2]; rfl
  · rw [hslot]; exact (h.steady.fits j).trunkReset
  · rw [hslot]; exact (s.slot j).trunkReset_control.phase

theorem State.FitsAll.restoreTables (h : s.FitsAll idle fun _ => s.kill) :
    s.restoreTables.FitsAll idle fun _ => s.restoreTables.kill := by
  have hrail : ∀ r, s.restoreTables.rail r = s.rail r := State.rail_of (by simp [State.restoreTables]) (by simp [State.restoreTables])
  have hkill : s.restoreTables.kill = s.kill := by simp [State.restoreTables]
  have hph : ∀ j, (s.restoreTables.slot j).seq.phase = (s.slot j).seq.phase := fun j => by rw [State.slot_restoreTables]; rfl
  refine ⟨fun j => ?_, fun j => ?_, fun r => ?_⟩
  · rw [State.slot_restoreTables, hkill]
    exact (h.fits j).of_queues (Slot.restoreDefaults_control _) rfl rfl
  · simpa only [State.GrantOk, hph, hrail] using h.grants j
  · simpa only [State.RailOk, hrail] using h.rails r

/-- Every slot in a list that has nothing LIVE left ends its drain. -/
theorem State.FitsAll.foldl_drainIfIdle (l : List SlotId) : ∀ {s : State} {idle : SlotId → Bool},
    s.FitsAll idle (fun _ => s.kill) →
    (l.foldl State.drainIfIdle s).FitsAll (fun j => idle j && !decide (j ∈ l)) fun _ => s.kill := by
  induction l with
  | nil => intro s idle h; simpa using h
  | cons i is ih =>
    intro s idle h
    have hfit : (s.slot i).Fits true s.kill := { h.fits i with drains := nofun }
    have hb : s.FitsBut (fun j => idle j && !decide (j = i)) (fun _ => s.kill) i :=
      h.but (fun j hj => by simp [hj]) (fun _ _ => rfl) id
    have hat := hb.drainIfIdle hfit (h.grants i)
    have hkill : (s.drainIfIdle i).kill = s.kill := (s.drainIfIdle_calm i).quiet.kill
    have hall := hat.all (by simp)
    rw [← hkill] at hall
    have hrest := ih hall
    rw [hkill] at hrest
    simpa [Bool.and_assoc] using hrest

theorem execTrunkReset_sound (h : s.Sound) {order : List SlotId} (he : execTrunkReset order s = .next t) : t.Sound := by
  obtain ⟨hst, hfit⟩ := h.loseTrunk
  unfold execTrunkReset at he
  dsimp only at he
  obtain ⟨r, hr, hrst, hrfit, hscope, hmail⟩ : ∃ r, (if s.resetScope.isSome then s.loseTrunk.restoreTables else s.loseTrunk) = r ∧
      r.Stocked ∧ r.FitsAll (fun _ => true) (fun _ => r.kill) ∧ r.resetScope = none ∧ r.mailbox.state ≠ .busy := by
    refine ⟨_, rfl, ?_⟩
    split
    · refine ⟨hst.still s.loseTrunk.restoreTables_still, hfit.restoreTables, ?_, ?_⟩
      · simp [State.restoreTables]
      · simp [State.restoreTables, State.loseTrunk, Mailbox.trunkReset]
    · next hs => exact ⟨hst, hfit, show s.resetScope = none by simpa using hs, nofun⟩
  rw [hr] at he
  cases he
  have hcalm := r.foldl_calm State.drainIfIdle_calm (slotOrder order)
  have hend := hrfit.foldl_drainIfIdle (slotOrder order)
  rw [← hcalm.quiet.kill] at hend
  have hall : ((slotOrder order).foldl State.drainIfIdle r).FitsAll (fun _ => false)
      fun _ => ((slotOrder order).foldl State.drainIfIdle r).kill := by
    simpa [mem_slotOrder] using hend
  have hsteady := (hrst.still hcalm.still).steady hall
  refine (hsteady.of_presented (t := State.dropPresented _) ?_ id).sound (.of_none ?_ ?_)
  · simp [State.Presents, State.dropPresented]
  · exact hcalm.quiet.resetScope.trans hscope
  · show ((slotOrder order).foldl State.drainIfIdle r).mailbox.state ≠ _
    rw [hcalm.quiet.mailbox]
    exact hmail

/-! ### POWER_ON_RESET -/

theorem Slot.powerOn_data (strap present pwrgd : Bool) : (Slot.powerOn strap present pwrgd).DataOk := by
  refine ⟨?_, ⟨.nil, .nil, nofun⟩, ?_, fun l => ?_⟩
  · exact ⟨Nat.zero_le _, Nat.zero_le _, Nat.zero_le _, Nat.zero_le _, Nat.zero_le _⟩
  · have hempty : Incident.empty.InRange := by
      refine ⟨⟨by decide, nofun, by decide, by decide⟩, by decide⟩
    exact ⟨(by decide : Limits.memDefault.InRange), (by decide : Limits.cfgDefault.InRange), rfl, Estimator.zero_inRange,
      Estimator.zero_inRange, (by decide : MonitorRecord.default.InRange), (by decide : Detection.default.stallCount ≤ 65535),
      (by decide : Detection.default.pendingErrors ≤ 255), (by decide : Detection.default.pendingStrays ≤ 255),
      (by decide : Detection.default.errAcc ≤ 255), (by decide : Detection.default.strayAcc ≤ 255), Plan.default_usable _,
      Plan.default_usable _, (by decide : SlotCounters.zero.InRange), hempty, hempty⟩
  · cases l <;> exact Nat.zero_le _

theorem Slot.powerOn_fits (strap present pwrgd : Bool) {d k : Bool} : (Slot.powerOn strap present pwrgd).Fits d k := by
  have hh : (Slot.powerOn strap present pwrgd).Halted := ⟨rfl, rfl, rfl, rfl, rfl⟩
  cases present
  · exact .of_empty rfl rfl rfl nofun rfl nofun hh rfl rfl rfl nofun rfl
  · exact .of_rest ⟨⟨rfl, fun _ => rfl, nofun⟩, rfl, nofun⟩ hh (.inl rfl) rfl rfl nofun rfl

theorem State.powerOn_sound (pins : PowerOnPins) : (State.powerOn pins).Sound := by
  have hslot : ∀ j, (State.powerOn pins).slot j =
      Slot.powerOn (pins.straps.get j) (pins.present.get j) (pins.pwrgd.get j) := fun j => by cases j <;> rfl
  have hrail : ∀ r, (State.powerOn pins).rail r = Rail.free := fun r => by cases r <;> rfl
  refine State.Steady.sound ⟨fun j => ?_, fun j => ?_, fun j => ?_, fun r => ?_, Nat.zero_le _, fun j n => ?_, nofun, ?_,
    (by decide : PartCounters.zero.InRange), (by decide : 9 ≤ 99), (by decide : 99 ≤ 65535),
    (by decide : 16 ≤ 250), (by decide : 250 ≤ 4095), (by decide : 250 ≤ 4095)⟩ (.of_none rfl nofun)
  · rw [hslot]; exact Slot.powerOn_data ..
  · rw [hslot]; exact Slot.powerOn_fits ..
  · rw [State.GrantOk, hslot, hrail]
    exact ⟨⟨nofun, nofun⟩, nofun, nofun⟩
  · simp [State.RailOk, hrail, Rail.free]
  · rw [hslot]; rfl
  · exact ⟨nofun, nofun, fun _ => ⟨rfl, rfl⟩, nofun⟩

/-! ### What every command keeps -/

theorem execTrunkUp_kept (h : s.Sound) : s.KeptBy (execTrunkUp s) := State.Kept.by h.of_same

/-- Every command but RESET, INGRESS_CLASSIFY and the two that send what the host is owed owes the host the same. -/
def keepsDebt : Instr → Bool
  | .powerOnReset _ | .trunkReset _ | .ingressClassify _ | .receiveQueueTake _ _ | .egressGrant _ => false
  | _ => true

theorem exec_nearly (h : s.Sound) {c : Instr} (hc : keepsDebt c = true) : s.NearlyBy (exec c s) := by
  cases c with
  | powerOnReset | trunkReset | ingressClassify | receiveQueueTake | egressGrant => cases hc
  | ingressTake => exact execIngressTake_nearly h
  | configSpaceWrite => exact execConfigSpaceWrite_nearly h
  | goLost => exact (execGoLost_kept h).nearly
  | unknownCommand => exact execUnknownCommand_nearly h
  | sendQueueDeparture i => exact (execSendQueueDeparture_kept h).nearly
  | duplicateKeyDisposal i => exact (execDuplicateKeyDisposal_kept h).nearly
  | containmentQueueAnswer i => exact (execContainmentQueueAnswer_kept h).nearly
  | slotLinkReceive i tx => exact (execSlotLinkReceive_kept h tx).nearly
  | expiry i n => exact (execExpiry_kept h n).nearly
  | fencedEntryAnswer i => exact (execFencedEntryAnswer_kept h).nearly
  | stallTrip i => exact (execStallTrip_kept h).nearly
  | healthVisit => exact (execHealthVisit_kept h).nearly
  | correctedLinkError i => exact (execCorrectedLinkError_kept h).nearly
  | linkLoss i => exact (execLinkLoss_kept h).nearly
  | linkUp i => exact (execLinkUp_kept h).nearly
  | powerLoss i => exact (execPowerLoss_kept h).nearly
  | powerRise i => exact (execPowerRise_kept h).nearly
  | killAssert order => exact (execKillAssert_kept h order).nearly
  | killDeassert => exact (execKillDeassert_kept h).nearly
  | removal i => exact (execRemoval_kept h).nearly
  | insertion i => exact (execInsertion_kept h).nearly
  | drainTimerRunsOut i => exact (execDrainTimerRunsOut_kept h).nearly
  | executorAccessSend i => exact (execExecutorAccessSend_kept h).nearly
  | functionResetTimerRunsOut i => exact (execFunctionResetTimerRunsOut_kept h).nearly
  | functionResetReissue i => exact (execFunctionResetReissue_kept h).nearly
  | resetAssertTimerRunsOut i => exact (execResetAssertTimerRunsOut_kept h).nearly
  | linkWaitTimerRunsOut i => exact (execLinkWaitTimerRunsOut_kept h).nearly
  | settleTimerRunsOut i => exact (execSettleTimerRunsOut_kept h).nearly
  | powerOffTimerRunsOut i => exact (execPowerOffTimerRunsOut_kept h).nearly
  | pwrgdLimitRunsOut i => exact (execPwrgdLimitRunsOut_kept h).nearly
  | onSettleRunsOut i => exact (execOnSettleRunsOut_kept h).nearly
  | stepTimerRunsOut i => exact (execStepTimerRunsOut_kept h).nearly
  | stepReissue i => exact (execStepReissue_kept h).nearly
  | pollIntervalRunsOut i => exact (execPollIntervalRunsOut_kept h).nearly
  | pollLimitRunsOut i => exact (execPollLimitRunsOut_kept h).nearly
  | pauseRunsOut i => exact (execPauseRunsOut_kept h).nearly
  | probationTimerRunsOut i => exact (execProbationTimerRunsOut_kept h).nearly
  | setWindow => exact h.nearly_command (code := 0x01) rfl
  | commitWindows => exact h.nearly_command (code := 0x02) rfl
  | setSlotBus => exact h.nearly_command (code := 0x03) rfl
  | setPlan => exact h.nearly_command (code := 0x08) rfl
  | setLimits => exact h.nearly_command (code := 0x09) rfl
  | setMonitor => exact h.nearly_command (code := 0x0A) rfl
  | setVisit => exact h.nearly_command (code := 0x0B) rfl
  | setTimebase => exact h.nearly_command (code := 0x0C) rfl
  | loadStep => exact h.nearly_command (code := 0x10) rfl
  | setScriptLength => exact h.nearly_command (code := 0x11) rfl
  | commitScript => exact h.nearly_command (code := 0x12) rfl
  | capture => exact h.nearly_command (code := 0x13) rfl
  | admitSlot => exact h.nearly_command (code := 0x18) rfl
  | isolate => exact h.nearly_command (code := 0x19) rfl
  | recover => exact h.nearly_command (code := 0x1A) rfl
  | hold => exact h.nearly_command (code := 0x1B) rfl
  | resume => exact h.nearly_command (code := 0x1C) rfl
  | abort => exact h.nearly_command (code := 0x1D) rfl
  | retire => exact h.nearly_command (code := 0x1E) rfl
  | release => exact h.nearly_command (code := 0x1F) rfl
  | querySlot => exact h.nearly_command (code := 0x20) rfl
  | readIncident => exact h.nearly_command (code := 0x21) rfl
  | readCounters => exact h.nearly_command (code := 0x22) rfl
  | setNotice => exact h.nearly_command (code := 0x28) rfl
  | ackNotices => exact h.nearly_command (code := 0x29) rfl
  | resetPart => exact h.nearly_command (code := 0x3F) rfl
  | resetPartEnd => exact (execResetPartEnd_kept h).nearly
  | trunkUp => exact (execTrunkUp_kept h).nearly
  | tickEnd => exact (execTickEnd_kept h).nearly

end Sys2Proof.Machine

/-! SUPPORT. The invariants every step keeps, and the one that RESUME breaks. -/

namespace Sys2Proof.Machine

variable {s t : State} {i : SlotId}

/-- Every command keeps every invariant but `State.Sequenced`. -/
theorem exec_safe (h : s.Sound) (c : Instr) (he : exec c s = .next t) : t.Safe := by
  by_cases hc : keepsDebt c = true
  · exact (exec_nearly h hc t he).1
  · cases c with
    | powerOnReset pins =>
      cases he
      exact (State.powerOn_sound pins).of_same.1.safe
    | trunkReset order => exact (execTrunkReset_sound h he).safe
    | ingressClassify tx => exact (execIngressClassify_sound h he).1.safe
    | receiveQueueTake i room => exact (execReceiveQueueTake_served h room t he).1.safe
    | egressGrant room => exact (execEgressGrant_served h room t he).1.safe
    | _ => exact absurd rfl hc

/-- Every step keeps every invariant but `State.Sequenced`. -/
theorem step_safe (h : s.Sound) (he : step s = .next t) : t.Safe := by
  unfold step at he
  split at he
  · cases he
    exact h.safe
  · exact exec_safe h.of_same.1 _ he

/-! ### RESUME of a slot with no access to issue -/

/-- A slot in FUNCTION_RESET, HELD, with its access withheld, whose plan sample has no FUNCTION RESET WRITE. `State.Sound`
does not tie the withheld mark to an access that the phase has to issue. -/
def withheldSlot : Slot :=
  { Slot.powerOn false true false with
    seq := { Sequencer.powerOn true with
      state := .recovering, phase := some .functionReset, level := some .slot, held := true }
    exec := { Executor.default with withheld := true }
    current := { Incident.empty with outcome := .pending } }

/-- The reset state but for that slot and a GO with RESUME for it at the ingress head. -/
def withheldState : State :=
  { State.reset with
    pending := [.resume]
    slots := State.reset.slots.set .s0 withheldSlot
    head := some { tx := .cfgWrite 0x0100 1 7 0x180 0xF 0, dest := .management }
    mailbox := { Mailbox.default with command := 0x1C } }

theorem withheldSlot_fits : withheldSlot.Fits false false := by
  have hc : withheldSlot.Contained := ⟨⟨rfl, fun _ => rfl, nofun⟩, rfl, nofun⟩
  have hp : withheldSlot.Pending := ⟨rfl, rfl, fun l => (by cases l <;> exact Nat.zero_le _)⟩
  have hl : withheldSlot.LevelLeft := ⟨nofun, fun l hl _ => by cases hl; decide⟩
  have ha : withheldSlot.Attempting := ⟨hc, hp, rfl, hl, rfl, rfl⟩
  exact ha.fits (ph := .functionReset) rfl nofun (fun _ => rfl) (fun _ => ⟨rfl, rfl⟩) nofun nofun nofun

theorem withheldState_sound : withheldState.Sound := by
  obtain ⟨h1, h2, -, h4, h5, h6, -, h8, h9⟩ := (State.powerOn_sound PowerOnPins.default).steady
  have hself : withheldState.slot .s0 = withheldSlot := rfl
  have hothers : ∀ j, j ≠ .s0 → withheldState.slot j = State.reset.slot j := fun j hj => by
    cases j with
    | s0 => exact absurd rfl hj
    | s1 | s2 | s3 => rfl
  have hrail : ∀ r, withheldState.rail r = Rail.free := fun r => by cases r <;> rfl
  refine State.Steady.sound ⟨fun j => ?_, fun j => ?_, fun j => ?_, fun r => ?_, h5, fun j n => ?_, ?_, h8, h9⟩
    (.of_none rfl nofun)
  · by_cases hj : j = .s0
    · subst hj
      obtain ⟨hb, hd, hr, ha⟩ := Slot.powerOn_data false true false
      exact ⟨hb, hd, hr, ha⟩
    · rw [hothers j hj]; exact h1 j
  · by_cases hj : j = .s0
    · subst hj
      exact withheldSlot_fits
    · rw [hothers j hj]; exact h2 j
  · rw [State.GrantOk, hrail]
    cases j <;> exact ⟨⟨nofun, nofun⟩, nofun, nofun⟩
  · simp [State.RailOk, hrail, Rail.free]
  · cases j <;> rfl
  · rintro hd hh -
    cases hh
    exact .inr (.inl ⟨_, _, _, _, _, _, rfl⟩)

/-- RESUME clears HELD and leaves the access withheld. -/
theorem withheldState_step : ∃ t, step withheldState = .next t ∧ (t.slot .s0).exec.withheld = true ∧
    (t.slot .s0).seq.held = false := ⟨_, rfl, rfl, rfl⟩

/-- Refutes O7: RESUME of a HELD slot in FUNCTION_RESET whose withheld access its plan sample does not name clears HELD and
leaves the mark. -/
theorem not_sequencersStayConsistent : ¬ Obligations.SequencersStayConsistent := by
  unfold Obligations.SequencersStayConsistent
  intro h
  obtain ⟨t, ht, hw, hh⟩ := withheldState_step
  have hshape := (h _ _ withheldState_sound ht).1 .s0
  exact absurd (hshape.2.2.2.2.2.2.1 hw).2 (by simp [hh])

end Sys2Proof.Machine

/-! The statements about what every step keeps. -/

namespace Sys2Proof.Machine

/-- Settles O5: every step keeps the invariants of queues, tables, ranges and heads. -/
theorem capacitiesRangesAndHeadsKept : Obligations.CapacitiesRangesAndHeadsKept := fun _ _ h he =>
  have ht := step_safe h he
  ⟨ht.bounded, ht.inRange, ht.head, ht.noPosted⟩

/-- Settles O6: every step keeps the entries of every ORT distinct and the ANSWERING ones owned. -/
theorem ortEntriesStayDistinct : Obligations.OrtEntriesStayDistinct := fun _ _ h he =>
  have ht := step_safe h he
  ⟨ht.distinct, ht.owners⟩

/-- Settles O8: every step keeps LIVE entries where the slot states let them be. -/
theorem liveEntriesFitStates : Obligations.LiveEntriesFitStates := fun _ _ h he => (step_safe h he).live

/-- Settles O9: every step keeps the lines and KILL in accord with the slot states. -/
theorem linesAndKillFitStates : Obligations.LinesAndKillFitStates := fun _ _ h he =>
  have ht := step_safe h he
  ⟨ht.lined, ht.killed⟩

/-- Settles O10: every step keeps records and attempt counts in accord with the slot states. -/
theorem incidentsFollowStates : Obligations.IncidentsFollowStates := fun _ _ h he =>
  have ht := step_safe h he
  ⟨ht.recorded, ht.sample⟩

/-- Settles O11: every step keeps what is presented, and the mailbox in accord with a RESET PART. -/
theorem managementStaysConsistent : Obligations.ManagementStaysConsistent := fun _ _ h he =>
  have ht := step_safe h he
  ⟨ht.presents, ht.busy⟩

/-- Settles O12: a command that keeps the debt, one that lets a request in, and one that sends or stages an answer. -/
theorem noRequestIsLost : Obligations.NoRequestIsLost := by
  intro c s t h hreset hpower he
  have hserved : s.Served t → (t.debt < s.debt →
      s.debt = t.debt + 1 ∧
        ((∃ a, isAnswer a = true ∧ t.trunkSent = s.trunkSent ++ [a]) ∨
          ∃ i a, isAnswer a = true ∧ (s.slot i).traffic.stage = none ∧ (t.slot i).traffic.stage = some a)) ∧
      (s.debt < t.debt → t.debt = s.debt + 1 ∧ ∃ tx, c = .ingressClassify tx ∧ nonPosted tx = true) := by
    rintro ⟨-, heq | ⟨hone, hsent⟩⟩
    · exact ⟨fun hlt => absurd heq hlt.ne, fun hlt => absurd heq hlt.ne'⟩
    · exact ⟨fun _ => ⟨hone, hsent⟩, fun hlt => absurd hone (by omega)⟩
  by_cases hc : keepsDebt c = true
  · have heq := (exec_nearly h hc t he).2
    exact ⟨fun hlt => absurd heq hlt.ne, fun hlt => absurd heq hlt.ne'⟩
  · cases c with
    | powerOnReset pins => exact absurd rfl (hpower pins)
    | trunkReset order => exact absurd rfl (hreset order)
    | ingressClassify tx =>
      obtain ⟨-, heq | ⟨hone, hn⟩⟩ := execIngressClassify_sound h he
      · exact ⟨fun hlt => absurd heq hlt.ne, fun hlt => absurd heq hlt.ne'⟩
      · exact ⟨fun hlt => absurd hone (by omega), fun _ => ⟨hone, tx, rfl, hn⟩⟩
    | receiveQueueTake i room => exact hserved (execReceiveQueueTake_served h room t he)
    | egressGrant room => exact hserved (execEgressGrant_served h room t he)
    | _ => exact absurd rfl hc

/-- Settles O4: the power-on state, whatever the input levels, and the reset state with its chosen ones. -/
theorem powerOnIsSound : Obligations.PowerOnIsSound :=
  ⟨State.powerOn_sound, State.powerOn_sound _⟩

/-- Settles O1: the two arms of a step. -/
theorem stepTakesFrontCommand : Obligations.StepTakesFrontCommand := by
  refine ⟨fun s c rest hp => ?_, fun s hp => ?_⟩
  · unfold step
    rw [hp]
  · unfold step
    rw [hp]

end Sys2Proof.Machine

/-! SUPPORT. No command stops, and none touches the commands that wait. -/

namespace Sys2Proof.Machine

variable {s t : State} {i : SlotId}

/-- A command goes on to a next state and leaves the waiting commands alone. -/
def State.GoesOn (s : State) (o : Host.Outcome State Fault Refusal) : Prop := ∃ t, o = .next t ∧ t.pending = s.pending

theorem State.goesOn (h : t.pending = s.pending) : s.GoesOn (.next t) := ⟨t, rfl, h⟩

theorem State.goesOn_ite {c : Prop} [Decidable c] {u : State} (ht : t.pending = s.pending) (hu : u.pending = s.pending) :
    s.GoesOn (.next (if c then t else u)) := by
  split
  · exact s.goesOn ht
  · exact s.goesOn hu

/-! ### Queues and claims -/

@[simp] theorem State.settleReset_pending : s.settleReset.pending = s.pending := by
  unfold State.settleReset
  split
  · simp [State.endReset, State.restoreTables]
  · rfl

@[simp] theorem State.answerQueued_pending : (s.answerQueued i).pending = s.pending := by
  unfold State.answerQueued
  split
  · rfl
  · split
    · split
      · rw [State.settleReset_pending]; rfl
      · rfl
    · rfl

@[simp] theorem State.answerFenced_pending : (s.answerFenced i).pending = s.pending := by
  unfold State.answerFenced
  split
  · rfl
  · split
    · rw [State.settleReset_pending]; rfl
    · rfl

@[simp] theorem State.meetClaim_pending : s.meetClaim.pending = s.pending := by
  unfold State.meetClaim
  split
  · rfl
  · split <;> simp

@[simp] theorem State.meetClaims_pending (n : Nat) : ∀ s : State, (State.meetClaims n s).pending = s.pending := by
  induction n with
  | zero => exact fun _ => rfl
  | succ n ih =>
    intro s
    unfold State.meetClaims
    split
    · rw [ih, State.meetClaim_pending]
    · rfl

theorem State.beforeSyn_pending : s.beforeSyn.pending = s.pending := by
  unfold State.beforeSyn
  split
  · rfl
  · split <;> simp

theorem State.grantSyn_pending (room : Bool) : (s.grantSyn room).pending = s.pending := by
  unfold State.grantSyn
  split
  · rfl
  · dsimp only
    split <;> rfl

theorem State.grantSlot_pending : (s.grantSlot i).pending = s.pending := by
  unfold State.grantSlot
  split <;> rfl

theorem State.grantMgt_pending : s.grantMgt.pending = s.pending := by
  unfold State.grantMgt
  split
  · rfl
  · dsimp only
    split <;> simp [State.sendTrunk]
  · simp [State.sendTrunk]

/-! ### The executor's answers -/

theorem State.readDword_pending (data : List Byte) : (s.readDword data).2.pending = s.pending := by
  unfold State.readDword
  split <;> rfl

theorem State.stepAnswer_pending (st : Status) (data : List Byte) : (s.stepAnswer i st data).pending = s.pending := by
  have hread := s.readDword_pending data
  unfold State.stepAnswer
  split
  · rfl
  · split
    · exact (s.failAttempt_quiet i).pending
    · exact (s.failAttempt_quiet i).pending
    · rfl
    · split
      · exact (s.passStep_quiet i).pending
      · rfl
      · dsimp only
        split
        · exact (State.passStep_quiet _ i).pending.trans hread
        · exact (State.failAttempt_quiet _ i).pending.trans hread
      · dsimp only
        split
        · exact (State.passStep_quiet _ i).pending.trans hread
        · exact hread

theorem State.resetWriteAnswer_pending (st : Status) : (s.resetWriteAnswer i st).pending = s.pending := by
  cases st with
  | ok => exact (s.enterSettle_quiet i).pending
  | retry => rfl
  | abort | unsupported => exact (s.failAttempt_quiet i).pending

theorem State.executorAnswer_pending (t : Tag) (st : Status) (data : List Byte) :
    (s.executorAnswer i t st data).pending = s.pending := by
  unfold State.executorAnswer
  split
  · rfl
  · split
    · dsimp only
      split
      · exact State.resetWriteAnswer_pending st
      · exact State.stepAnswer_pending st data
      · rfl
    · rfl

/-! ### The mailbox -/

theorem State.withSlot_pending {f : SlotId → Reply} (hf : ∀ i, (f i).state.pending = s.pending) :
    (s.withSlot f).state.pending = s.pending := by
  unfold State.withSlot
  split
  · exact hf _
  · rfl

theorem State.resetPart_pending : s.resetPart.pending = s.pending := by
  obtain ⟨t, hcalm, -, he⟩ := s.beginReset_spec
  rw [State.resetPart, State.settleReset_pending, he]
  exact hcalm.quiet.pending

theorem Reply.ite_pending {c : Prop} [Decidable c] {a b : Reply} (ha : a.state.pending = s.pending)
    (hb : b.state.pending = s.pending) : (if c then a else b).state.pending = s.pending := by
  split
  · exact ha
  · exact hb

/-- No mailbox command touches the commands that wait. -/
theorem commandEffect_pending {code : Nat} {effect : State → State} (he : commandEffect? code = some effect) (s : State) :
    (effect s).pending = s.pending := by
  unfold commandEffect? at he
  split at he
  all_goals simp only [Option.some.injEq, reduceCtorEq] at he
  all_goals subst he
  · exact State.withSlot_pending fun i => Reply.ite_pending rfl rfl
  · rfl
  · exact State.withSlot_pending fun i => rfl
  · refine State.withSlot_pending fun i => ?_
    split <;> rfl
  · refine State.withSlot_pending fun i => ?_
    split <;> rfl
  · exact State.withSlot_pending fun i => rfl
  · rfl
  · rfl
  · refine State.withSlot_pending fun i => Reply.ite_pending rfl ?_
    split <;> rfl
  · exact State.withSlot_pending fun i => rfl
  · exact State.withSlot_pending fun i => Reply.ite_pending rfl (Reply.ite_pending rfl rfl)
  · exact State.withSlot_pending fun i => rfl
  · exact State.withSlot_pending fun i => Reply.ite_pending (s.admitSlot_quiet i).pending rfl
  · exact State.withSlot_pending fun i => Reply.ite_pending (s.tripNow_quiet i _).pending rfl
  · exact State.withSlot_pending fun i => Reply.ite_pending (s.recoverSlot_quiet i).pending rfl
  · exact State.withSlot_pending fun i => Reply.ite_pending rfl rfl
  · exact State.withSlot_pending fun i => Reply.ite_pending rfl rfl
  · exact State.withSlot_pending fun i => Reply.ite_pending (s.abort_quiet i).pending rfl
  · exact State.withSlot_pending fun i => Reply.ite_pending (s.retire_quiet i _).pending rfl
  · exact State.withSlot_pending fun i => Reply.ite_pending (s.releaseSlot_calm i).quiet.pending rfl
  · exact State.withSlot_pending fun i => rfl
  · refine State.withSlot_pending fun i => ?_
    split <;> rfl
  · refine State.withSlot_pending fun i => ?_
    dsimp only
    split <;> rfl
  · show (s.applyNotice _ _).pending = _
    unfold State.applyNotice
    dsimp only
    split
    · split <;> simp
    · simp
  · show (s.acknowledge _).pending = _
    unfold State.acknowledge
    dsimp only
    split <;> simp
  · exact State.resetPart_pending

theorem State.beginGo_pending (r : Requester) (t : Tag) : (s.beginGo r t).pending = s.pending := by
  rw [State.beginGo_eq]
  rfl

theorem State.runGo_pending (code : Nat) {effect : State → State} (he : ∀ u : State, (effect u).pending = u.pending) :
    (s.runGo code effect).pending = s.pending := by
  unfold State.runGo
  split
  · split
    · rw [he, State.beginGo_pending]
    · rfl
  · rfl

theorem State.goesOn_command {code : Nat} {effect : State → State} (he : commandEffect? code = some effect) :
    s.GoesOn (.next (s.runGo code effect)) := s.goesOn (s.runGo_pending code (commandEffect_pending he))

theorem State.answered_pending (r : Requester) (t : Tag) (d : Option Dword) :
    (s.clearHead.giveAnswer r t d).pending = s.pending := by
  rw [State.giveAnswer_eq]
  rfl

theorem State.writeConfig_pending (off : Offset) (be : ByteEnables) (d : Dword) :
    (s.writeConfig off be d).pending = s.pending := by
  unfold State.writeConfig
  split
  · split
    · rfl
    · unfold State.runCommand
      split
      · next he => exact (commandEffect_pending he _).trans rfl
      · rfl
  · rfl

/-! ### Ingress -/

theorem State.takeManagement_pending (tx : Transaction) : (s.takeManagement tx).pending = s.pending := by
  cases tx with
  | cfgRead r t g o =>
    unfold State.takeManagement
    dsimp only
    split
    · exact State.answered_pending ..
    · rfl
  | cfgWrite r t g o be d =>
    unfold State.takeManagement
    dsimp only
    split
    · exact (State.writeConfig_pending ..).trans (State.answered_pending ..)
    · rfl
  | memRead | memWrite | message | answer => rfl

theorem State.takeSynthetic_pending (tx : Transaction) {count : State → State}
    (hc : ∀ u : State, (count u).pending = u.pending) : (s.takeSynthetic tx count).pending = s.pending := by
  unfold State.takeSynthetic
  split
  · split
    · exact (hc _).trans rfl
    · rfl
  · exact (hc _).trans rfl

theorem execIngressTake_goesOn : s.GoesOn (execIngressTake s) := by
  refine State.goesOn ?_
  split
  · rfl
  · split
    · exact State.takeManagement_pending _
    · split
      · unfold State.takeServing
        split <;> rfl
      · unfold State.takeContained
        split
        · rfl
        · split <;> rfl
    · exact State.takeSynthetic_pending _ fun _ => rfl
    · exact State.takeSynthetic_pending _ fun _ => rfl

/-! ### Every command -/

theorem execEgressGrant_goesOn (room : Bool) : s.GoesOn (execEgressGrant room s) := by
  refine State.goesOn ?_
  split
  · split
    · rfl
    · exact State.grantSlot_pending
    · exact (State.grantSyn_pending room).trans State.beforeSyn_pending
    · exact State.grantMgt_pending
  · rfl

theorem execReceiveQueueTake_goesOn (room : Bool) : s.GoesOn (execReceiveQueueTake i room s) := by
  refine State.goesOn ?_
  split
  · rfl
  · split
    · exact State.executorAnswer_pending ..
    · split
      · rfl
      · exact (State.drainIfIdle_quiet _ i).pending
  · rfl
  · rfl
  · rfl
  · split
    · rfl
    · split <;> rfl

theorem execTrunkReset_goesOn (order : List SlotId) : s.GoesOn (execTrunkReset order s) := by
  refine State.goesOn ?_
  refine (State.foldl_calm _ State.drainIfIdle_calm (slotOrder order)).quiet.pending.trans ?_
  split
  · simp [State.restoreTables, State.loseTrunk]
  · rfl

theorem execExpiry_goesOn (n : Nat) : s.GoesOn (execExpiry i n s) := by
  refine State.goesOn_ite ?_ rfl
  dsimp only
  split
  · exact (State.trip_quiet _ i _ _ _).pending
  · exact (State.drainIfIdle_quiet _ i).pending

theorem State.visit_pending : (s.visit i).pending = s.pending := by
  unfold State.visit
  split
  · dsimp only
    split
    · exact (State.trip_quiet _ i _ _ _).pending
    · split
      · exact (State.tripNow_quiet _ i _).pending
      · rfl
  · rfl

theorem execLinkLoss_goesOn : s.GoesOn (execLinkLoss i s) := by
  refine State.goesOn_ite ?_ rfl
  dsimp only
  split
  · exact (State.tripNow_quiet _ i _).pending
  · exact (State.tripNow_quiet _ i _).pending
  · rfl
  · rfl
  · split
    · exact (State.failAttempt_quiet _ i).pending
    · rfl
  all_goals rfl

theorem execPowerLoss_goesOn : s.GoesOn (execPowerLoss i s) := by
  refine State.goesOn_ite ?_ rfl
  dsimp only
  split
  · exact (State.tripNow_quiet _ i _).pending
  · exact (State.tripNow_quiet _ i _).pending
  · rfl
  · rfl
  · split
    · exact (State.failAttempt_quiet _ i).pending
    · rfl
  all_goals rfl

theorem execLinkUp_goesOn : s.GoesOn (execLinkUp i s) := by
  refine State.goesOn_ite rfl ?_
  dsimp only
  split
  · exact (State.enterSettle_quiet _ i).pending
  · rfl

theorem execRemoval_goesOn : s.GoesOn (execRemoval i s) := by
  refine State.goesOn_ite ?_ rfl
  have hq := (s.modSlot_quiet i Slot.remove).trans (State.releaseRail_quiet _ i)
  unfold State.removalIncident
  split
  · exact ((hq.trans (State.openIncident_quiet _ i _ _ _ _ _)).trans (State.closeIncident_quiet _ i _)).pending
  · exact (hq.trans (State.closeIncident_quiet _ i _)).pending

theorem execUnknownCommand_goesOn : s.GoesOn (execUnknownCommand s) := by
  refine State.goesOn ?_
  split
  · exact State.runGo_pending _ fun _ => rfl
  · rfl

theorem execGoLost_goesOn : s.GoesOn (execGoLost s) := by
  refine State.goesOn ?_
  split
  · split
    · exact State.answered_pending ..
    · rfl
  · rfl

theorem execConfigSpaceWrite_goesOn : s.GoesOn (execConfigSpaceWrite s) := by
  refine State.goesOn ?_
  split
  · split
    · exact (State.writeConfig_pending ..).trans (State.answered_pending ..)
    · rfl
  · rfl

theorem execSendQueueDeparture_goesOn : s.GoesOn (execSendQueueDeparture i s) := by
  refine State.goesOn ?_
  split
  · rfl
  · split
    · split
      · split <;> rfl
      · rfl
    · rfl

theorem execDuplicateKeyDisposal_goesOn : s.GoesOn (execDuplicateKeyDisposal i s) := by
  refine State.goesOn ?_
  split
  · rfl
  · split
    · split <;> rfl
    · rfl

theorem execExecutorAccessSend_goesOn : s.GoesOn (execExecutorAccessSend i s) := by
  refine State.goesOn ?_
  split
  · rfl
  · split <;> rfl

theorem execKillAssert_goesOn (order : List SlotId) : s.GoesOn (execKillAssert order s) := by
  refine State.goesOn_ite rfl ?_
  exact (State.foldl_calm _ (fun u j => u.takeKill_calm j) (slotOrder order)).quiet.pending.trans (by simp)

theorem exec_goesOn (c : Instr) (s : State) : s.GoesOn (exec c s) := by
  cases c with
  | powerOnReset pins => exact s.goesOn rfl
  | trunkReset order => exact execTrunkReset_goesOn order
  | ingressClassify tx => exact s.goesOn_ite rfl rfl
  | ingressTake => exact execIngressTake_goesOn
  | configSpaceWrite => exact execConfigSpaceWrite_goesOn
  | goLost => exact execGoLost_goesOn
  | unknownCommand => exact execUnknownCommand_goesOn
  | sendQueueDeparture i => exact execSendQueueDeparture_goesOn
  | duplicateKeyDisposal i => exact execDuplicateKeyDisposal_goesOn
  | containmentQueueAnswer i => exact s.goesOn State.answerQueued_pending
  | slotLinkReceive i tx => exact s.goesOn_ite rfl rfl
  | receiveQueueTake i room => exact execReceiveQueueTake_goesOn room
  | egressGrant room => exact execEgressGrant_goesOn room
  | expiry i n => exact execExpiry_goesOn n
  | fencedEntryAnswer i => exact s.goesOn State.answerFenced_pending
  | stallTrip i => exact s.goesOn_ite (State.tripNow_quiet _ i _).pending rfl
  | healthVisit => exact s.goesOn_ite State.visit_pending rfl
  | correctedLinkError i => exact s.goesOn_ite rfl rfl
  | linkLoss i => exact execLinkLoss_goesOn
  | linkUp i => exact execLinkUp_goesOn
  | powerLoss i => exact execPowerLoss_goesOn
  | powerRise i => exact s.goesOn_ite rfl rfl
  | killAssert order => exact execKillAssert_goesOn order
  | killDeassert => exact s.goesOn_ite (by simp) rfl
  | removal i => exact execRemoval_goesOn
  | insertion i => exact s.goesOn_ite rfl rfl
  | drainTimerRunsOut i => exact s.goesOn_ite (s.endDraining_quiet i).pending rfl
  | executorAccessSend i => exact execExecutorAccessSend_goesOn
  | functionResetTimerRunsOut i => exact s.goesOn_ite (s.failAttempt_quiet i).pending rfl
  | functionResetReissue i => exact s.goesOn_ite rfl rfl
  | resetAssertTimerRunsOut i => exact s.goesOn_ite (s.enterResetRelease_quiet i).pending rfl
  | linkWaitTimerRunsOut i => exact s.goesOn_ite (s.failAttempt_quiet i).pending rfl
  | settleTimerRunsOut i => exact s.goesOn_ite (s.settleDone_quiet i).pending rfl
  | powerOffTimerRunsOut i => exact s.goesOn_ite rfl rfl
  | pwrgdLimitRunsOut i => exact s.goesOn_ite (s.failAttempt_quiet i).pending rfl
  | onSettleRunsOut i =>
    exact s.goesOn_ite ((s.releaseRail_quiet i).trans (State.enterResetRelease_quiet _ i)).pending rfl
  | stepTimerRunsOut i => exact s.goesOn_ite (s.failAttempt_quiet i).pending rfl
  | stepReissue i => exact s.goesOn_ite rfl rfl
  | pollIntervalRunsOut i => exact s.goesOn_ite rfl rfl
  | pollLimitRunsOut i => exact s.goesOn_ite (s.failAttempt_quiet i).pending rfl
  | pauseRunsOut i => exact s.goesOn_ite (s.passStep_quiet i).pending rfl
  | probationTimerRunsOut i => exact s.goesOn_ite (s.goOnline_quiet i).pending rfl
  | setWindow => exact s.goesOn_command (code := 0x01) rfl
  | commitWindows => exact s.goesOn_command (code := 0x02) rfl
  | setSlotBus => exact s.goesOn_command (code := 0x03) rfl
  | setPlan => exact s.goesOn_command (code := 0x08) rfl
  | setLimits => exact s.goesOn_command (code := 0x09) rfl
  | setMonitor => exact s.goesOn_command (code := 0x0A) rfl
  | setVisit => exact s.goesOn_command (code := 0x0B) rfl
  | setTimebase => exact s.goesOn_command (code := 0x0C) rfl
  | loadStep => exact s.goesOn_command (code := 0x10) rfl
  | setScriptLength => exact s.goesOn_command (code := 0x11) rfl
  | commitScript => exact s.goesOn_command (code := 0x12) rfl
  | capture => exact s.goesOn_command (code := 0x13) rfl
  | admitSlot => exact s.goesOn_command (code := 0x18) rfl
  | isolate => exact s.goesOn_command (code := 0x19) rfl
  | recover => exact s.goesOn_command (code := 0x1A) rfl
  | hold => exact s.goesOn_command (code := 0x1B) rfl
  | resume => exact s.goesOn_command (code := 0x1C) rfl
  | abort => exact s.goesOn_command (code := 0x1D) rfl
  | retire => exact s.goesOn_command (code := 0x1E) rfl
  | release => exact s.goesOn_command (code := 0x1F) rfl
  | querySlot => exact s.goesOn_command (code := 0x20) rfl
  | readIncident => exact s.goesOn_command (code := 0x21) rfl
  | readCounters => exact s.goesOn_command (code := 0x22) rfl
  | setNotice => exact s.goesOn_command (code := 0x28) rfl
  | ackNotices => exact s.goesOn_command (code := 0x29) rfl
  | resetPart => exact s.goesOn_command (code := 0x3F) rfl
  | resetPartEnd => exact s.goesOn State.settleReset_pending
  | trunkUp => exact s.goesOn rfl
  | tickEnd => exact s.goesOn rfl

/-- Settles O2: each command's event gives a next state with the same queue of commands. -/
theorem commandsNeverStop : Obligations.CommandsNeverStop := exec_goesOn

end Sys2Proof.Machine

/-! The Egress Arbiter's ring, the allowance, the destinations of configuration requests and host answers, the tick and the
power-on values. -/

namespace Sys2Proof.Machine

variable {s t : State} {i : SlotId}

/-! ### The ring (R20) -/

/-- A source's place on the ring. -/
def Source.place : Source → Nat
  | .slot .s0 => 0
  | .slot .s1 => 1
  | .slot .s2 => 2
  | .slot .s3 => 3
  | .syn => 4
  | .mgt => 5

theorem Source.place_lt (x : Source) : x.place < 6 := by
  rcases x with i | _ | _ <;> (try cases i) <;> decide

theorem Source.get_place (x : Source) :
    ([.slot .s0, .slot .s1, .slot .s2, .slot .s3, .syn, .mgt] : List Source)[x.place]? = some x := by
  rcases x with i | _ | _ <;> (try cases i) <;> rfl

theorem Source.place_inj {x y : Source} (h : x.place = y.place) : x = y :=
  Option.some.inj (x.get_place.symm.trans (h ▸ y.get_place))

/-- How far a source is from its turn: its distance behind the last served one. -/
theorem idxOf_ringAfter (x y : Source) : (ringAfter x).idxOf y = (y.place + 5 - x.place) % 6 := by
  rcases x with i | _ | _ <;> (try cases i) <;> rcases y with j | _ | _ <;> (try cases j) <;> rfl

/-- No ready source stands before the one that is granted. -/
theorem State.nextSource_le {x y : Source} (hx : s.nextSource = some x) (hy : s.ready y = true) :
    (ringAfter s.lastServed).idxOf x ≤ (ringAfter s.lastServed).idxOf y := by
  obtain ⟨-, k, hk, hkx, hlow⟩ := List.find?_eq_some_iff_getElem.1 hx
  have hle : (ringAfter s.lastServed).idxOf x ≤ k := by
    by_contra hlt
    have hne := List.not_of_lt_findIdx (Nat.lt_of_not_le hlt)
    simp [hkx] at hne
  refine hle.trans ?_
  by_contra hlt
  have hbefore := hlow _ (Nat.lt_of_not_le hlt)
  rw [List.getElem_idxOf] at hbefore
  simp [hy] at hbefore

theorem exec_egressGrant_lastServed {x : Source} (room : Bool) (hup : s.trunkUp = true) (hx : s.nextSource = some x)
    (he : exec (.egressGrant room) s = .next t) : t.lastServed = x := by
  change execEgressGrant room s = .next t at he
  simp only [execEgressGrant, hup, hx, if_true] at he
  rcases x with i | _ | _ <;> cases he <;> rfl

/-- Settles O13: the granted source is ready and no later on the ring than any other ready one. -/
theorem egressServesWithinSix : Obligations.EgressServesWithinSix := by
  refine ⟨fun s => ⟨fun i => ?_, State.ready_syn, ?_⟩, fun s t room src hup hsrc he => ?_⟩
  · simp [State.ready, Option.isSome_iff_ne_none]
  · simp [State.ready, Option.isSome_iff_ne_none]
  · obtain ⟨x, hx⟩ := State.nextSource_some hsrc
    have hle := State.nextSource_le hx hsrc
    rw [exec_egressGrant_lastServed room hup hx he]
    simp only [idxOf_ringAfter] at hle ⊢
    have h1 := s.lastServed.place_lt
    have h2 := x.place_lt
    have h3 := src.place_lt
    refine ⟨Nat.mod_lt _ (by decide), ?_⟩
    by_cases heq : x = src
    · exact .inl heq
    · have hne : x.place ≠ src.place := fun hc => heq (Source.place_inj hc)
      exact .inr ⟨State.nextSource_ready hx, by omega⟩

/-! ### Allowances (R57) -/

theorem DeadlineUnit.allowance_learning (d : DeadlineUnit) {c : RequestClass} (len : Nat)
    (h : (d.estimator c).samples < 8) : d.allowance c len = (d.limits c).ceil := by
  simp [DeadlineUnit.allowance, Config.learningSamples, h]

theorem DeadlineUnit.allowance_learned (d : DeadlineUnit) {c : RequestClass} (len : Nat)
    (h : 8 ≤ (d.estimator c).samples) (hr : (d.limits c).floor ≤ (d.limits c).ceil) :
    d.allowance c len = min (d.limits c).ceil (max (d.limits c).floor
      ((d.estimator c).est16 * (d.limits c).mult / 64 + match c with
        | .mem => len * (d.limits c).per16 / 16
        | .cfg => 0)) := by
  have hn : ¬(d.estimator c).samples < Config.learningSamples := by simpa [Config.learningSamples] using h
  simp only [DeadlineUnit.allowance, if_neg hn, clampTo_eq _ _ _ hr]
  cases c <;> dsimp only <;> omega

theorem DeadlineUnit.allowance_range (d : DeadlineUnit) {c : RequestClass} (len : Nat) (hr : (d.limits c).InRange) :
    (d.limits c).floor ≤ d.allowance c len ∧ d.allowance c len ≤ (d.limits c).ceil ∧
      1 ≤ d.allowance c len ∧ d.allowance c len ≤ 65535 := by
  obtain ⟨h1, h2, h3, -⟩ := hr
  rcases Nat.lt_or_ge (d.estimator c).samples 8 with h | h
  · rw [d.allowance_learning len h]
    omega
  · rw [d.allowance_learned len h h2]
    omega

/-- Settles O15: while learning and after, for each class. -/
theorem allowanceComputed : Obligations.AllowanceComputed := fun d len =>
  ⟨d.allowance_learning (c := .mem) len, d.allowance_learning (c := .cfg) len, d.allowance_learned (c := .mem) len,
    d.allowance_learned (c := .cfg) len, d.allowance_range (c := .mem) len, d.allowance_range (c := .cfg) len⟩

/-! ### Classification (R3, R4, R6) -/

theorem State.classify_own (s : State) {tx : Transaction} (h : requesterOf tx = some 0xFFFF) :
    s.classify tx = .unrouted := if_pos h

theorem State.classify_config (s : State) {tx : Transaction} {r : Requester} {t : Tag} {g : Target} {o : Offset}
    (h : tx = .cfgRead r t g o ∨ ∃ be data, tx = .cfgWrite r t g o be data) (hr : r ≠ 0xFFFF) :
    s.classify tx = targetDestination g := by
  have hne : some r ≠ some ownRequester := fun hc => hr (Option.some.inj hc)
  obtain rfl | ⟨be, data, rfl⟩ := h
  · exact if_neg hne
  · exact if_neg hne

/-- Settles O16: a head is taken in only where there is room, and classified by requester and target. -/
theorem headClassifiedOnce : Obligations.HeadClassifiedOnce := by
  refine ⟨fun s tx h => ?_, fun s tx hup hfree hown => ?_, fun s tx r t g o htx hup hfree hr => ?_⟩
  · have hno : (s.trunkUp && s.head.isNone) = false := by
      obtain h | h := h
      · simp [h]
      · cases hh : s.head with
        | none => simp [hh] at h
        | some x => simp
    show execIngressClassify tx s = _
    simp [execIngressClassify, hno]
  · rw [exec_ingressClassify_free tx hup hfree, s.classify_own hown]
  · rw [exec_ingressClassify_free tx hup hfree, s.classify_config htx hr, targetDestination_eq]

/-- The Slot Bus entry that a host answer matches (R6). -/
theorem slotBus_matches_iff (s : State) (r : Requester) (i : SlotId) :
    (s.slotBus.get i == busOf r && s.slotBus.get i != 0) = true ↔
      s.slotBus.get i ≠ 0 ∧ (s.slotBus.get i).toNat = r.toNat / 256 := by
  have hbus : (busOf r).toNat = r.toNat / 256 := by
    have hr := r.isLt
    rw [busOf, BitVec.extractLsb'_toNat, Nat.shiftRight_eq_div_pow]
    omega
  rw [Bool.and_eq_true, beq_iff_eq, bne_iff_ne, ← BitVec.toNat_inj, hbus]
  exact and_comm

/-- The first slot of a list of slots in ascending order with a property is the lowest. -/
theorem find?_all_eq_some_iff (f : SlotId → Bool) (i : SlotId) :
    SlotId.all.find? f = some i ↔ f i = true ∧ ∀ j, j.toNat < i.toNat → f j = false := by
  simp only [SlotId.all, List.find?_cons, List.find?_nil, SlotId.forall_iff]
  cases i <;> cases f .s0 <;> cases f .s1 <;> cases f .s2 <;> cases f .s3 <;> simp [SlotId.toNat]

/-- Settles O18: the bus table is searched from slot 0 up. -/
theorem hostAnswersByBusNumber : Obligations.HostAnswersByBusNumber := by
  intro s r t st rem cnt data hup hfree
  refine ⟨s.busDestination r, exec_ingressClassify_free _ hup hfree, fun hr => ?_, fun hr => ⟨fun i => ?_, fun hnone => ?_⟩⟩
  · rw [hr]; rfl
  · have hiff := find?_all_eq_some_iff (fun i => s.slotBus.get i == busOf r && s.slotBus.get i != 0) i
    simp only [slotBus_matches_iff, ← Bool.not_eq_true] at hiff
    rw [← hiff]
    unfold State.busDestination
    rw [if_neg (show r ≠ ownRequester from hr)]
    split
    · next j hj => rw [hj]; simp
    · next hj => rw [hj]; simp
  · have hall : SlotId.all.find? (fun i => s.slotBus.get i == busOf r && s.slotBus.get i != 0) = none := by
      rw [List.find?_eq_none]
      intro j _ hj
      exact hnone j ((slotBus_matches_iff s r j).1 hj)
    unfold State.busDestination
    rw [if_neg (show r ≠ ownRequester from hr), hall]

/-! ### The Send Queue's tail (R12) -/

/-- Settles O20: the head joins the tail, or is held by a full queue. -/
theorem servingHeadJoinsSendQueue : Obligations.ServingHeadJoinsSendQueue := by
  intro s i tx hhead hstate
  have htake : exec .ingressTake s = .next (s.takeServing i tx) := by
    simp [exec, execIngressTake, hhead, Slot.serving_iff.2 hstate]
  rw [htake]
  refine ⟨fun hlen => ?_, fun hlen => ?_⟩
  · exact congrArg _ (if_pos hlen)
  · exact congrArg _ (if_neg (Nat.not_lt.2 hlen))

/-! ### The end of a tick (R47, R49, R51, R63, R69) -/

theorem Slot.stallCounting_iff (p : Slot) : p.stallCounting = true ↔
    p.serving = true ∧ p.traffic.stage = none ∧ (p.traffic.sendQueue ≠ [] ∨ ∃ e ∈ p.traffic.ort, e.state = .live) := by
  have hlive : p.traffic.ort.any Entry.isLive = true ↔ ∃ e ∈ p.traffic.ort, e.state = .live := by simp [Entry.isLive]
  rw [Slot.stallCounting, Bool.and_eq_true, Bool.and_eq_true, Slot.pendingWork, Bool.or_eq_true, hlive, Option.isNone_iff_eq_none,
    Bool.not_eq_true', List.isEmpty_eq_false_iff, and_assoc, and_comm (b := p.traffic.stage = none)]

theorem Slot.tick_eq (p : Slot) : p.tick = { p with
    detect := p.tickStall.detect
    seq := { p.seq with
      drainTimer := if p.seq.held then p.seq.drainTimer else tickTimer p.seq.drainTimer
      phaseTimer := if p.seq.held then p.seq.phaseTimer else tickTimer p.seq.phaseTimer
      reissueTimer := if p.seq.held then p.seq.reissueTimer else tickTimer p.seq.reissueTimer
      probationTimer := if p.seq.held then p.seq.probationTimer else tickTimer p.seq.probationTimer }
    exec := { p.exec with
      stepTimer := if p.seq.held then p.exec.stepTimer else tickTimer p.exec.stepTimer
      reissueTimer := if p.seq.held then p.exec.reissueTimer else tickTimer p.exec.reissueTimer
      intervalTimer := if p.seq.held then p.exec.intervalTimer else tickTimer p.exec.intervalTimer
      limitTimer := if p.seq.held then p.exec.limitTimer else tickTimer p.exec.limitTimer
      pauseTimer := if p.seq.held then p.exec.pauseTimer else tickTimer p.exec.pauseTimer } } := by
  have hstall : p.tickStall = { p with detect := p.tickStall.detect } := by
    unfold Slot.tickStall
    split <;> rfl
  unfold Slot.tick
  rw [hstall]
  by_cases hh : p.seq.held = true
  · simp only [if_pos hh]
  · simp only [if_neg hh, Sequencer.tick, Executor.tick]

theorem exec_tickEnd (s : State) : ∃ t, exec .tickEnd s = .next t ∧
    t = { s with
      slots := t.slots
      time := { s.time with now := s.time.now + 1, tickPrescale := s.time.prescale }
      health := { s.health with visitTimer := s.health.visitTimer - 1 } } ∧ ∀ i, t.slot i = (s.slot i).tick :=
  ⟨_, rfl, rfl, fun i => PerSlot.get_map s.slots i Slot.tick⟩

/-- Settles O48: the slot's tick is that of its Stall Monitor and of its timers. -/
theorem tickEndCounts : Obligations.TickEndCounts := by
  intro s
  obtain ⟨t, he, ht, hslot⟩ := exec_tickEnd s
  refine ⟨t, he, ht, fun i => ?_⟩
  have hdetect : (t.slot i).detect = (s.slot i).tickStall.detect := by rw [hslot, Slot.tick_eq]
  dsimp only
  rw [hdetect, ← Slot.stallCounting_iff]
  refine ⟨fun hc => ?_, fun hc => ?_, ?_⟩
  · rw [Slot.tickStall, if_pos hc]
  · rw [Slot.tickStall, if_neg hc]
  · rw [hslot]
    exact Slot.tick_eq _

/-! ### Power on -/

/-- Settles O3: the values of `State.powerOn`. -/
theorem powerOnResetValues : Obligations.PowerOnResetValues := by
  intro pins s
  have hslot : ∀ i, State.slot { State.powerOn pins with pending := s.pending, freeIndex := s.freeIndex } i =
      Slot.powerOn (pins.straps.get i) (pins.present.get i) (pins.pwrgd.get i) := fun i => by cases i <;> rfl
  refine ⟨{ State.powerOn pins with pending := s.pending, freeIndex := s.freeIndex }, rfl, rfl, fun i => ?_, fun k => ?_,
    fun i => ?_, rfl, rfl, rfl, rfl, rfl, rfl, rfl, rfl, rfl, rfl, fun i => ?_, rfl, rfl, rfl, rfl, rfl, rfl, rfl, rfl, rfl,
    rfl, rfl, fun k => ?_, fun k => ?_, rfl, rfl⟩
  · rw [hslot]
    exact ⟨rfl, rfl, rfl, rfl, rfl, rfl, rfl, rfl, rfl, rfl, fun k => Vector.getElem_replicate k.isLt, rfl, rfl, rfl, rfl⟩
  · exact ⟨Vector.getElem_replicate k.isLt, Vector.getElem_replicate k.isLt⟩
  · exact PerSlot.get_all i 0
  · exact PerSlot.get_all i false
  · exact Vector.getElem_replicate k.isLt
  · exact Vector.getElem_replicate k.isLt

end Sys2Proof.Machine

/-! The Send Queue's head, duplicate keys, the answers of containment and the card's requests (chapters 1, 2 and 5). -/

namespace Sys2Proof.Machine

variable {s t : State} {i : SlotId}

/-! ### Departures (R16, R25, R27) -/

/-- A departure from a serving slot's Send Queue. -/
theorem exec_sendQueueDeparture_serving {tx : Transaction} (hq : (s.slot i).traffic.sendQueue.head? = some tx)
    (hs : (s.slot i).serving = true) : exec (.sendQueueDeparture i) s =
      .next (if (s.slot i).lines.linkUp then
        if nonPosted tx then
          if (s.slot i).admissible tx then s.modSlot i fun p => p.admitEntry s.time.now tx else s
        else s.modSlot i fun p => p.depart tx
      else s) := by
  show execSendQueueDeparture i s = _
  simp only [execSendQueueDeparture, hq, hs, Bool.true_and]

theorem exec_sendQueueDeparture_contained (hs : (s.slot i).serving = false) :
    exec (.sendQueueDeparture i) s = .next s := by
  show execSendQueueDeparture i s = _
  cases hq : (s.slot i).traffic.sendQueue.head? <;> simp [execSendQueueDeparture, hq, hs]

/-- Settles O27: a posted head goes with the link, a non-posted one with its admission too. -/
theorem sendQueueHeadDeparts : Obligations.SendQueueHeadDeparts := by
  refine ⟨fun s i hs => exec_sendQueueDeparture_contained hs, fun s i tx rest hqueue hs => ?_⟩
  have hq : (s.slot i).traffic.sendQueue.head? = some tx := by rw [hqueue]; rfl
  have htail : (s.slot i).traffic.sendQueue.tail = rest := by rw [hqueue]; rfl
  rw [exec_sendQueueDeparture_serving hq hs]
  refine ⟨fun hdown => ?_, fun hup hposted => ?_, fun r t q hreq => ⟨fun hwait => ?_, fun hup hfree hroom => ?_⟩⟩
  · simp [hdown]
  · simp only [hup, hposted, if_true, Bool.false_eq_true, if_false, State.modSlot_withSlotAt, Slot.depart_eq, htail]
  · obtain ⟨hkey, hn, -, -⟩ := entryRequestOf_some hreq
    have hno : (s.slot i).admissible tx = false := by
      rw [← Bool.not_eq_true, (s.slot i).admissible_iff hkey]
      rintro ⟨hfree, hroom⟩
      obtain ⟨e, he, hsame⟩ | hfull := hwait
      · exact hfree e he hsame
      · omega
    simp [hno, hn]
  · obtain ⟨hkey, hn, -, -⟩ := entryRequestOf_some hreq
    obtain ⟨hlt, hnew, hlow⟩ := freeNumber_spec _ hroom
    refine ⟨_, hlt, hnew, hlow, ?_⟩
    have hadm := ((s.slot i).admissible_iff hkey).2 ⟨hfree, hroom⟩
    simp only [hup, hn, hadm, if_true, State.modSlot_withSlotAt, Slot.admitEntry_eq _ _ hreq, htail]

/-! ### Duplicate keys (R26) -/

/-- Settles O28: with room in the SAQ the head is answered, else it stays. -/
theorem duplicateKeyAnswered : Obligations.DuplicateKeyAnswered := by
  intro s i tx rest r t hqueue hs hkey hdup
  have hexec : exec (.duplicateKeyDisposal i) s = .next (if s.saqRoom then
      (s.appendSaq
        { requester := r, tag := t, status := .unsupported, remaining := owedBytes tx, style := .none,
          owner := none }).modSlot i (fun p => p.popSend.countDuplicate) else s) := by
    show execDuplicateKeyDisposal i s = _
    simp only [execDuplicateKeyDisposal, hqueue, List.head?_cons, hs, ((s.slot i).duplicateKey_iff hkey).2 hdup, Bool.true_and,
      unsupportedItem_some hkey]
  rw [hexec]
  refine ⟨fun hroom => ?_, fun hfull => ?_⟩
  · rw [if_pos (show s.saqRoom = true from decide_eq_true hroom), State.modSlot_withSlotAt]
    have htail : (s.slot i).traffic.sendQueue.tail = rest := by rw [hqueue]; rfl
    show Host.Outcome.next ((s.appendSaq _).withSlotAt i (s.slot i).popSend.countDuplicate) = _
    simp only [Slot.popSend, htail]
    rfl
  · have hno : s.saqRoom = false := decide_eq_false (Nat.not_lt.2 hfull)
    simp [hno]

/-! ### Containment (R38, R87) -/

/-- What the containment path drops behind the head: the posted entries up to the next non-posted one. -/
theorem Slot.dropPosted_of_split {p : Slot} {dropped rest : List Transaction} (hq : p.traffic.sendQueue = dropped ++ rest)
    (hd : ∀ x ∈ dropped, nonPosted x = false) (hr : ∀ x, rest.head? = some x → nonPosted x = true) :
    p.dropPosted = { p with
      traffic := { p.traffic with sendQueue := rest }
      counters := { p.counters with droppedWrites := min 4294967295 (p.counters.droppedWrites + dropped.length) } } := by
  have hall : ∀ x ∈ dropped, (!nonPosted x) = true := fun x hx => by simp [hd x hx]
  have hdrop : rest.dropWhile (fun tx => !nonPosted tx) = rest ∧ rest.takeWhile (fun tx => !nonPosted tx) = [] := by
    cases rest with
    | nil => exact ⟨rfl, rfl⟩
    | cons x xs => simp [hr x rfl]
  simp only [Slot.dropPosted, Slot.countDroppedWrites, hq, List.dropWhile_append_of_pos hall,
    List.takeWhile_append_of_pos hall, hdrop.1, hdrop.2, List.append_nil]
  rfl

/-- The mark of an item that a RESET PART in progress waits for (R172). -/
theorem State.resetWaitsFor_eq (s : State) (i : SlotId) : s.resetWaitsFor i =
    (match s.resetScope with
      | some scope => scope.get i
      | none => false) := rfl

/-- What every event does that answers a claim. -/
theorem settleReset_next {u : State} {o : Host.Outcome State Fault Refusal} (h : o = .next u.settleReset) :
    (¬u.OwesNothing → o = .next u) ∧ (u.OwesNothing → o = .next u.resetEnded) :=
  ⟨fun hn => h.trans (congrArg _ ((State.settleReset_eq u).2 hn)),
    fun hn => h.trans (congrArg _ ((State.settleReset_eq u).1 hn))⟩

/-- The claim of a contained Send Queue's head. -/
theorem State.answerQueued_eq {tx : Transaction} {dropped rest : List Transaction} {r : Requester} {t : Tag}
    (hs : (s.slot i).serving = false) (hroom : s.saq.length < 64)
    (hqueue : (s.slot i).traffic.sendQueue = tx :: (dropped ++ rest)) (hkey : keyOf tx = some (r, t))
    (hdropped : ∀ x ∈ dropped, nonPosted x = false) (hrest : ∀ x, rest.head? = some x → nonPosted x = true) :
    s.answerQueued i = State.settleReset (({ s with
        saq := s.saq ++ [
          { requester := r
            tag := t
            status := ((s.slot i).answerStyle.contents (readsData tx)).1
            remaining := owedBytes tx
            style := ((s.slot i).answerStyle.contents (readsData tx)).2
            owner := none
            ofReset := s.resetWaitsFor i }] } : State).withSlotAt i
      { s.slot i with
        traffic := { (s.slot i).traffic with sendQueue := rest }
        counters := { (s.slot i).counters with
          synthetic := min 4294967295 ((s.slot i).counters.synthetic + 1)
          droppedWrites := min 4294967295 ((s.slot i).counters.droppedWrites + dropped.length) }
        current := if (s.slot i).current.outcome = .pending then
            { (s.slot i).current with synthetic := min 65535 ((s.slot i).current.synthetic + 1) }
          else (s.slot i).current }) := by
  have hsaq : s.saqRoom = true := decide_eq_true hroom
  have hpop : (s.slot i).popSend = { s.slot i with traffic := { (s.slot i).traffic with sendQueue := dropped ++ rest } } := by
    rw [Slot.popSend, hqueue]
    rfl
  have hq : (s.slot i).popSend.countSynthetic.traffic.sendQueue = dropped ++ rest := by
    rw [Slot.countSynthetic_traffic, hpop]
  have hslot := Slot.dropPosted_of_split hq hdropped hrest
  rw [Slot.countSynthetic_eq, hpop] at hslot
  simp only [State.answerQueued, hqueue, List.head?_cons, hs, hsaq, Bool.not_false, Bool.and_self, if_true,
    containmentItem_some _ hkey, State.modSlot_withSlotAt]
  show State.settleReset ((s.appendOwed i _).withSlotAt i (s.slot i).popSend.countSynthetic.dropPosted) = _
  rw [Slot.countSynthetic_eq, hpop, hslot]
  rfl

/-- The claim of a slot's oldest FENCED entry. -/
theorem State.answerFenced_eq {older younger : List Entry} {e : Entry} (hroom : s.saq.length < 64)
    (hort : (s.slot i).traffic.ort = older ++ e :: younger) (holder : ∀ x ∈ older, x.state ≠ .fenced)
    (he : e.state = .fenced) :
    s.answerFenced i = State.settleReset (({ s with
        saq := s.saq ++ [
          { requester := e.requester
            tag := e.tag
            status := ((s.slot i).answerStyle.contents e.request.reads).1
            remaining := e.remaining
            style := ((s.slot i).answerStyle.contents e.request.reads).2
            owner := some { slot := i, entry := e.number }
            ofReset := s.resetWaitsFor i }] } : State).withSlotAt i
      { s.slot i with
        traffic := { (s.slot i).traffic with ort := older ++ { e with state := .answering } :: younger }
        counters := { (s.slot i).counters with
          synthetic := min 4294967295 ((s.slot i).counters.synthetic + 1) }
        current := if (s.slot i).current.outcome = .pending then
            { (s.slot i).current with synthetic := min 65535 ((s.slot i).current.synthetic + 1) }
          else (s.slot i).current }) := by
  have hsaq : s.saqRoom = true := decide_eq_true hroom
  have hf : ∀ x ∈ older, Entry.isFenced x = false := fun x hx => by simpa [Entry.isFenced] using holder x hx
  have hfe : Entry.isFenced e = true := by simp [Entry.isFenced, he]
  have hfind : (s.slot i).traffic.ort.find? Entry.isFenced = some e := by
    rw [hort]; exact find?_split _ _ _ _ hf hfe
  have hslot := Slot.countSynthetic_eq { s.slot i with traffic := { (s.slot i).traffic with
    ort := updateFirst Entry.isFenced (fun x => { x with state := .answering }) (s.slot i).traffic.ort } }
  rw [hort, updateFirst_split _ _ _ _ _ hf hfe] at hslot
  simp only [State.answerFenced, hfind, hsaq, if_true, State.modSlot_withSlotAt]
  show State.settleReset ((s.appendOwed i _).withSlotAt i (Slot.countSynthetic { s.slot i with
    traffic := { (s.slot i).traffic with
      ort := updateFirst Entry.isFenced (fun x => { x with state := .answering }) (s.slot i).traffic.ort } })) = _
  rw [hort, updateFirst_split _ _ _ _ _ hf hfe, hslot]
  rfl

theorem State.answerQueued_full (hfull : 64 ≤ s.saq.length) : s.answerQueued i = s := by
  have hno : s.saqRoom = false := decide_eq_false (Nat.not_lt.2 hfull)
  unfold State.answerQueued
  split
  · rfl
  · rw [hno, Bool.and_false]
    rfl

theorem State.answerFenced_full (hfull : 64 ≤ s.saq.length) : s.answerFenced i = s := by
  have hno : s.saqRoom = false := decide_eq_false (Nat.not_lt.2 hfull)
  unfold State.answerFenced
  split
  · rfl
  · rw [hno]
    rfl

/-- Settles O29: each claim's item joins the SAQ, and the event may end a RESET PART. -/
theorem containmentAnswers : Obligations.ContainmentAnswers := by
  refine ⟨?_, ?_, fun s i hfull => ?_, fun p => ?_⟩
  · intro s i tx dropped rest r t hs hroom hqueue hkey hdropped hrest
    exact settleReset_next (congrArg Host.Outcome.next (State.answerQueued_eq hs hroom hqueue hkey hdropped hrest))
  · intro s i older younger e hroom hort holder he
    exact settleReset_next (congrArg Host.Outcome.next (State.answerFenced_eq hroom hort holder he))
  · exact ⟨congrArg _ (State.answerQueued_full hfull), congrArg _ (State.answerFenced_full hfull)⟩
  · by_cases hempty : p.seq.state = .empty
    · simp [Slot.answerStyle, AnswerStyle.contents, hempty]
    · cases hstyle : p.seq.plan.style <;> simp [Slot.answerStyle, AnswerStyle.contents, hempty, hstyle]

/-! ### The card's requests (R17, R18, R89) -/

/-- A dropped card request is counted for the slot and, while its incident is PENDING, in that record (R89). -/
theorem Slot.countDroppedCardRequests_eq (p : Slot) (n : Nat) :
    p.countDroppedCardRequests n = { p with
      counters := { p.counters with droppedCardRequests := min 4294967295 (p.counters.droppedCardRequests + n) }
      current := if p.current.outcome = .pending then
          { p.current with dropped := min 65535 (p.current.dropped + n) }
        else p.current } := by
  by_cases hpending : p.current.outcome = .pending <;>
    simp [Slot.countDroppedCardRequests, Slot.notePending, satAdd, Config.counterLimit, Config.incidentLimit, hpending]

theorem Slot.popReceive_of_cons {p : Slot} {tx : Transaction} {rest : List Transaction}
    (hq : p.traffic.recvQueue = tx :: rest) : p.popReceive = { p with traffic := { p.traffic with recvQueue := rest } } := by
  rw [Slot.popReceive, hq]
  rfl

/-- A card's request that the part forwards while the slot is serving (R18). -/
def forwardable : Transaction → Bool
  | .memRead _ _ _ _ => true
  | .memWrite _ _ _ _ => true
  | .message .upstream _ => true
  | _ => false

/-- A forwardable card request waits for the stage, passes while the slot is serving, and is dropped otherwise. -/
theorem exec_receiveQueueTake_forwardable {tx : Transaction} {rest : List Transaction} (room : Bool)
    (hqueue : (s.slot i).traffic.recvQueue = tx :: rest) (hf : forwardable tx = true) :
    exec (.receiveQueueTake i room) s =
      .next (if (s.slot i).traffic.stage.isSome then s
        else if (s.slot i).serving then s.modSlot i fun p => p.popReceive.stageTx tx
        else s.modSlot i fun p => p.popReceive.countDroppedCardRequests 1) := by
  show execReceiveQueueTake i room s = _
  cases tx with
  | memRead | memWrite => simp only [execReceiveQueueTake, hqueue, List.head?_cons]
  | cfgRead | cfgWrite | answer => cases hf
  | message d g =>
    cases d with
    | upstream => simp only [execReceiveQueueTake, hqueue, List.head?_cons]
    | downstream => cases hf

/-- Every other card request is dropped. -/
theorem exec_receiveQueueTake_dropped {tx : Transaction} {rest : List Transaction} (room : Bool)
    (hqueue : (s.slot i).traffic.recvQueue = tx :: rest) (ha : isAnswer tx = false) (hf : forwardable tx = false) :
    exec (.receiveQueueTake i room) s = .next (s.modSlot i fun p => p.popReceive.countDroppedCardRequests 1) := by
  show execReceiveQueueTake i room s = _
  cases tx with
  | memRead | memWrite => cases hf
  | answer => cases ha
  | cfgRead | cfgWrite => simp only [execReceiveQueueTake, hqueue, List.head?_cons]
  | message d g =>
    cases d with
    | upstream => cases hf
    | downstream => simp only [execReceiveQueueTake, hqueue, List.head?_cons]

/-- Settles O30: queued while there is room; then dropped, held or staged. -/
theorem cardTrafficReceived : Obligations.CardTrafficReceived := by
  refine ⟨fun s i tx => ⟨fun hroom => ?_, fun hfull => ?_⟩, ?_⟩
  · exact congrArg _ (if_pos hroom)
  · exact congrArg _ (if_neg (Nat.not_lt.2 hfull))
  · intro s i tx rest room hqueue hanswer
    have hpop := Slot.popReceive_of_cons hqueue
    have hdrop : s.modSlot i (fun p => p.popReceive.countDroppedCardRequests 1) = s.withSlotAt i
        { s.slot i with
          traffic := { (s.slot i).traffic with recvQueue := rest }
          counters := { (s.slot i).counters with
            droppedCardRequests := min 4294967295 ((s.slot i).counters.droppedCardRequests + 1) }
          current := if (s.slot i).current.outcome = .pending then
              { (s.slot i).current with dropped := min 65535 ((s.slot i).current.dropped + 1) }
            else (s.slot i).current } := by
      rw [State.modSlot_withSlotAt, hpop, Slot.countDroppedCardRequests_eq]
    refine ⟨fun hf => ?_, fun hf hstage => ?_, fun hf hstage hs => ?_, fun hf hstage hs => ?_⟩
    · rw [exec_receiveQueueTake_dropped room hqueue hanswer hf, hdrop]
    · rw [exec_receiveQueueTake_forwardable room hqueue hf, if_pos hstage]
    · rw [exec_receiveQueueTake_forwardable room hqueue hf, ← hdrop]
      simp [hstage, hs]
    · rw [exec_receiveQueueTake_forwardable room hqueue hf]
      simp [hstage, hs, State.modSlot_withSlotAt, hpop, Slot.stageTx]

end Sys2Proof.Machine

/-! A card's answers: what they do to the ORT, and how the head that waits for an entry is considered again (chapter 2). -/

namespace Sys2Proof.Machine

variable {s t u : State} {i : SlotId}

/-! ### Taking an answer for the ORT (R28 to R35) -/

/-- The slot whose Receive Queue has given up the answer at its head: an answer is progress (R64). -/
def Slot.answerPopped (p : Slot) (rest : List Transaction) : Slot :=
  { p with
    traffic := { p.traffic with recvQueue := rest }
    detect := { p.detect with stallCount := p.detect.monitor.stallLimit } }

/-- An answer for the ORT, the stage empty. -/
theorem exec_receiveQueueTake_answer {r : Requester} {t : Tag} {st : Status} {rem cnt : Nat} {data : List Byte}
    {rest : List Transaction} (room : Bool) (hqueue : (s.slot i).traffic.recvQueue = .answer r t st rem cnt data :: rest)
    (hr : r ≠ 0xFFFF) (hstage : (s.slot i).traffic.stage = none) :
    exec (.receiveQueueTake i room) s = .next ((s.withSlotAt i
      (((s.slot i).answerPopped rest).takeAnswer
        s.time.now r t st rem cnt (.answer r t st rem cnt data) room)).drainIfIdle i) := by
  have hne : r ≠ ownRequester := hr
  show execReceiveQueueTake i room s = _
  simp only [execReceiveQueueTake, hqueue, List.head?_cons, if_neg hne, hstage, Option.isSome_none, Bool.false_eq_true,
    if_false, State.modSlot_withSlotAt, Slot.popReceive_of_cons hqueue, Slot.reloadStall, Slot.answerPopped]

/-- An answer for the ORT waits while the stage is full. -/
theorem exec_receiveQueueTake_held {r : Requester} {t : Tag} {st : Status} {rem cnt : Nat} {data : List Byte}
    {rest : List Transaction} (room : Bool) (hqueue : (s.slot i).traffic.recvQueue = .answer r t st rem cnt data :: rest)
    (hr : r ≠ 0xFFFF) (hstage : (s.slot i).traffic.stage.isSome = true) :
    exec (.receiveQueueTake i room) s = .next s := by
  have hne : r ≠ ownRequester := hr
  show execReceiveQueueTake i room s = _
  simp only [execReceiveQueueTake, hqueue, List.head?_cons, if_neg hne, hstage, if_true]

/-- A drain goes on where the slot is not DRAINING or holds a LIVE entry. -/
theorem State.drainIfIdle_of_live (h : (s.slot i).seq.state = .draining → 0 < (s.slot i).liveCount) : s.drainIfIdle i = s :=
  if_neg fun hc => absurd (h hc.1) (by simp [hc.2])

/-- A malformed answer: one that neither completes its request nor fits what is still owed (R29). -/
theorem Entry.judge_malformed (e : Entry) {st : Status} {rem cnt : Nat} (hok : st = .ok) (hcls : e.request.cls = .mem)
    (hbad : rem ≠ e.remaining ∨ rem < cnt) : e.judge st rem cnt = .malformed := by
  cases hj : e.judge st rem cnt with
  | malformed => rfl
  | final =>
    have := (e.judge_final_iff st rem cnt).1 hj
    simp only [hok, hcls, ne_eq, not_true_eq_false, reduceCtorEq, false_or] at this
    omega
  | partly =>
    have := (e.judge_partly_iff st rem cnt).1 hj
    omega

theorem Slot.liveCount_pos_of_mem {p : Slot} {e : Entry} (he : e ∈ p.traffic.ort) (hl : e.state = .live) : 0 < p.liveCount :=
  List.countP_pos_iff.2 ⟨e, he, by simp [Entry.isLive, hl]⟩

section

variable {p : Slot} {older younger : List Entry} {e : Entry} {r : Requester} {t : Tag} {st : Status} {rem cnt : Nat}

/-- The answer matches a LIVE entry. -/
theorem Slot.takeAnswer_live (hort : p.traffic.ort = older ++ e :: younger)
    (hold : ∀ x ∈ older, ¬(x.requester = r ∧ x.tag = t)) (hr : e.requester = r) (ht : e.tag = t) (hl : e.state = .live)
    (now : Ticks) (tx : Transaction) (room : Bool) : p.takeAnswer now r t st rem cnt tx room =
      match e.judge st rem cnt with
      | .final => p.completeEntry now e st tx room
      | .partly => { p with traffic := { p.traffic with
          stage := some tx, ort := older ++ { e with remaining := e.remaining - cnt } :: younger } }
      | .malformed => p.countStray := by
  rw [Slot.takeAnswer, find_key hort hold hr ht, ← update_key (fun x => { x with remaining := x.remaining - cnt }) hort hold hr ht]
  simp only [hl] <;> rfl

/-- The answer completes its request, and no waiting head is admitted with it. -/
theorem Slot.completeEntry_eq (hort : p.traffic.ort = older ++ e :: younger)
    (hold : ∀ x ∈ older, ¬(x.requester = r ∧ x.tag = t)) (hr : e.requester = r) (ht : e.tag = t) (now : Ticks)
    (tx : Transaction) (room : Bool)
    (hw : room = true → p.serving = false ∨ ∀ x, p.traffic.sendQueue.head? = some x → nonPosted x = false) :
    p.completeEntry now e st tx room = { p with
      traffic := { p.traffic with stage := some tx, ort := older ++ younger }
      deadlines :=
        match e.request.cls with
        | .mem => { p.deadlines with memEst := p.deadlines.memEst.sample (min 65535 (now - e.issueTime).toNat) }
        | .cfg => { p.deadlines with cfgEst := p.deadlines.cfgEst.sample (min 65535 (now - e.issueTime).toNat) }
      script :=
        match e.request with
        | .cfgWrite off be d => if st = .ok then p.script.captureWrite off be d else p.script
        | .cfgRead _ => p.script
        | .memRead _ _ => p.script } := by
  have herase : (p.stageTx tx).traffic.ort.eraseP (Entry.hasKey e.requester e.tag) = older ++ younger :=
    erase_key hort (fun x hx => by rw [hr, ht]; exact hold x hx) rfl rfl
  unfold Slot.completeEntry
  rw [Slot.reconsider_noneWaits]
  · unfold Slot.freeKey
    rw [herase]
    cases hq : e.request with
    | memRead a len => rfl
    | cfgRead off => rfl
    | cfgWrite off be d => simp only [Slot.deliverCapture]; split <;> rfl
  · have hd : ∀ q : Slot, (q.deliverCapture e.request st).serving = q.serving ∧
        (q.deliverCapture e.request st).traffic = q.traffic := fun q => by
      unfold Slot.deliverCapture
      split
      · split <;> exact ⟨rfl, rfl⟩
      · exact ⟨rfl, rfl⟩
      · exact ⟨rfl, rfl⟩
    have hserv : ∀ (q : Slot) (d : DeadlineUnit), ({ q with deadlines := d } : Slot).serving = q.serving := fun _ _ => rfl
    intro hroom
    rw [hserv, (hd _).1]
    simp only [(hd _).2]
    exact hw hroom

/-- A stale answer is counted. -/
theorem Slot.countStale_eq (p : Slot) : p.countStale = { p with
    counters := { p.counters with stale := min 4294967295 (p.counters.stale + 1) }
    current := if p.current.outcome = .pending then { p.current with stale := min 65535 (p.current.stale + 1) }
      else p.current } := by
  by_cases hpending : p.current.outcome = .pending <;>
    simp [Slot.countStale, Slot.notePending, satAdd, Config.counterLimit, Config.incidentLimit, hpending]

/-- A stray answer is counted, in the pending count too while the slot is serving (R33). -/
theorem Slot.countStray_eq (p : Slot) : p.countStray = { p with
    counters := { p.counters with stray := min 4294967295 (p.counters.stray + 1) }
    detect := { p.detect with
      pendingStrays := if p.serving then min 255 (p.detect.pendingStrays + 1) else p.detect.pendingStrays } } := by
  cases hs : p.serving <;> simp [Slot.countStray, hs, satAdd, Config.counterLimit, Config.accumulatorLimit]

theorem Entry.staleFinal_iff (e : Entry) (st : Status) (rem cnt : Nat) :
    e.staleFinal st rem cnt = true ↔ st ≠ .ok ∨ e.request.cls = .cfg ∨ cnt = rem := by
  simp [Entry.staleFinal, or_assoc]

/-- A stale answer: counted, and a TOMBSTONE freed where it is final by its own fields, which admits no waiting head. -/
theorem Slot.takeAnswer_stale (hort : p.traffic.ort = older ++ e :: younger)
    (hold : ∀ x ∈ older, ¬(x.requester = r ∧ x.tag = t)) (hr : e.requester = r) (ht : e.tag = t) (hl : e.state ≠ .live)
    (now : Ticks) (tx : Transaction) (room : Bool) (hw : room = true → e.state = .tombstone → p.serving = false ∨
      ∀ x, p.traffic.sendQueue.head? = some x → nonPosted x = false) :
    p.takeAnswer now r t st rem cnt tx room = { p with
      traffic := { p.traffic with
        ort := if e.state = .tombstone ∧ (st ≠ .ok ∨ e.request.cls = .cfg ∨ cnt = rem) then older ++ younger
          else p.traffic.ort }
      counters := { p.counters with stale := min 4294967295 (p.counters.stale + 1) }
      current := if p.current.outcome = .pending then { p.current with stale := min 65535 (p.current.stale + 1) }
        else p.current } := by
  rw [Slot.takeAnswer, find_key hort hold hr ht]
  dsimp only
  cases hst : e.state with
  | live => exact absurd hst hl
  | fenced | answering => simp [Slot.countStale_eq]
  | tombstone =>
    simp only [true_and, ← e.staleFinal_iff]
    by_cases hf : e.staleFinal st rem cnt = true
    · rw [if_pos hf, if_pos hf, Slot.reconsider_noneWaits, Slot.freeKey, Slot.countStale_eq]
      · simp only [erase_key hort hold hr ht]
      · rw [Slot.countStale_eq]
        exact fun hroom => hw hroom hst
    · rw [if_neg hf, if_neg hf, Slot.countStale_eq]

end

/-- Settles O31: a partial answer and a final one, by the judgement of R29. -/
theorem liveAnswerMatched : Obligations.LiveAnswerMatched := by
  intro s i r t st rem cnt data rest older younger e hqueue hr hort hold her het hl
  refine ⟨fun hstage room => exec_receiveQueueTake_held room hqueue hr hstage, fun hstage =>
    ⟨fun hok hcls hrem hcnt room => ?_, fun hfinal room hw => ?_⟩⟩
  · rw [exec_receiveQueueTake_answer room hqueue hr hstage,
      Slot.takeAnswer_live (p := (s.slot i).answerPopped rest) hort hold her het hl,
      (e.judge_partly_iff st rem cnt).2 ⟨hok, hcls, hrem, hcnt⟩]
    dsimp only
    rw [State.drainIfIdle_of_live]
    · rfl
    rw [State.withSlotAt_slot]
    refine fun _ => Slot.liveCount_pos_of_mem (List.mem_append_right _ (List.mem_cons_self ..)) hl
  · rw [exec_receiveQueueTake_answer room hqueue hr hstage,
      Slot.takeAnswer_live (p := (s.slot i).answerPopped rest) hort hold her het hl,
      (e.judge_final_iff st rem cnt).2 hfinal]
    dsimp only
    rw [Slot.completeEntry_eq (p := (s.slot i).answerPopped rest) hort hold her het _ _ _ hw]
    simp only [State.drainIfIdle, State.withSlotAt_slot]
    rfl

/-- Settles O32: stray, malformed and stale answers, none of which frees a LIVE entry. -/
theorem unmatchedAnswersDiscarded : Obligations.UnmatchedAnswersDiscarded := by
  intro s i r t st rem cnt data rest hqueue hr hstage hdrain
  have hstray : (s.withSlotAt i ((s.slot i).answerPopped rest).countStray).drainIfIdle i =
      s.withSlotAt i ((s.slot i).answerPopped rest).countStray := by
    refine State.drainIfIdle_of_live ?_
    rw [State.withSlotAt_slot, Slot.countStray_eq]
    exact hdrain
  refine ⟨fun hnone room => ?_, fun older younger e hort hold her het => ⟨fun hl hok hcls hbad room => ?_, fun hl room hw => ?_⟩⟩
  · rw [exec_receiveQueueTake_answer room hqueue hr hstage, Slot.takeAnswer_stray ((s.slot i).answerPopped rest) _ _ _ _ _ _ _ _ hnone,
      hstray,
      Slot.countStray_eq]
    rfl
  · rw [exec_receiveQueueTake_answer room hqueue hr hstage,
      Slot.takeAnswer_live (p := (s.slot i).answerPopped rest) hort hold her het hl,
      e.judge_malformed hok hcls hbad]
    dsimp only
    rw [hstray, Slot.countStray_eq]
    rfl
  · rw [exec_receiveQueueTake_answer room hqueue hr hstage,
      Slot.takeAnswer_stale (p := (s.slot i).answerPopped rest) hort hold her het hl _ _ _ hw, State.drainIfIdle_of_live]
    · rfl
    · rw [State.withSlotAt_slot]
      intro hd
      refine (hdrain hd).trans_eq ?_
      simp only [Slot.liveCount, Machine.liveCount]
      split
      · rw [hort, List.countP_append, List.countP_append, List.countP_cons_of_neg (by simpa [Entry.isLive] using hl)]
      · rfl

end Sys2Proof.Machine

/-! The Management Function at target 7: its configuration space, and the GOs that run a command or none (sections 10.1 to 10.3). -/

namespace Sys2Proof.Machine

variable {s : State}

/-! ### The places of the configuration space (R167) -/

theorem configPlace_param {o : Offset} {k : Fin 8} (h : o.toNat = 0x104 + 4 * k.val) : configPlace o = .param k := by
  have all : ∀ k : Fin 8, configPlace (BitVec.ofNat 12 (0x104 + 4 * k.val)) = .param k := by decide
  rw [← all k, ← h, BitVec.ofNat_toNat, BitVec.setWidth_eq]

theorem configPlace_response {o : Offset} {k : Fin 16} (h : o.toNat = 0x200 + 4 * k.val) : configPlace o = .response k := by
  have all : ∀ k : Fin 16, configPlace (BitVec.ofNat 12 (0x200 + 4 * k.val)) = .response k := by decide
  rw [← all k, ← h, BitVec.ofNat_toNat, BitVec.setWidth_eq]

theorem configPlace_command {o : Offset} (h : o.toNat = 0x100) : configPlace o = .command := by
  rw [BitVec.eq_of_toNat_eq (x := o) (y := 0x100) h]
  rfl

theorem configPlace_status {o : Offset} (h : o.toNat = 0x184) : configPlace o = .status := by
  rw [BitVec.eq_of_toNat_eq (x := o) (y := 0x184) h]
  rfl

/-- The offsets that name something a CONFIG READ shows. -/
theorem configPlace_unnamed {o : Offset} (h0 : o.toNat ≠ 0x000) (h1 : o.toNat ≠ 0x004)
    (hp : o.toNat < 0x100 ∨ 0x120 < o.toNat) (hs : o.toNat ≠ 0x184) (hr : o.toNat < 0x200 ∨ 0x23C < o.toNat) :
    configPlace o = .go ∨ configPlace o = .other := by
  unfold configPlace
  have hc : o.toNat ≠ 0x100 := by omega
  have hparam : ¬(0x104 ≤ o.toNat ∧ o.toNat ≤ 0x120 ∧ o.toNat % 4 = 0) := by omega
  have hresponse : ¬(0x200 ≤ o.toNat ∧ o.toNat ≤ 0x23C ∧ o.toNat % 4 = 0) := by omega
  simp only [if_neg h0, if_neg h1, if_neg hc, if_neg hparam, if_neg hs, if_neg hresponse]
  split_ifs <;> simp

/-- A CONFIG WRITE changes the command dword and the parameter dwords alone. -/
theorem configPlace_unwritten {o : Offset} (hc : o.toNat ≠ 0x100) (hp : ∀ k : Fin 8, o.toNat ≠ 0x104 + 4 * k.val) :
    configPlace o ≠ .command ∧ ∀ k, configPlace o ≠ .param k := by
  have hin : ¬(0x104 ≤ o.toNat ∧ o.toNat ≤ 0x120 ∧ o.toNat % 4 = 0) := fun ⟨hlo, hhi, h4⟩ =>
    hp ⟨(o.toNat - 0x104) / 4, by omega⟩ (by dsimp only; omega)
  unfold configPlace
  simp only [if_neg hc, if_neg hin]
  split_ifs <;> simp

theorem isGo_iff {o : Offset} {be : ByteEnables} : isGo o be = true ↔ o = 0x180 ∧ be ≠ 0 := by
  have hplace : configPlace o = .go ↔ o = 0x180 := by
    constructor
    · intro h
      unfold configPlace at h
      refine BitVec.eq_of_toNat_eq ?_
      simp only at h
      split_ifs at h with h1 h2 h3 h4 h5
      exact h5
    · rintro rfl
      rfl
  simp [isGo, hplace]

/-! ### CONFIG READ (R167, R168, R179) -/

theorem State.strapDword_toNat (s : State) : s.strapDword.toNat =
    4 + 256 * (s.slot .s0).lines.powerControl.toNat + 512 * (s.slot .s1).lines.powerControl.toNat +
      1024 * (s.slot .s2).lines.powerControl.toNat + 2048 * (s.slot .s3).lines.powerControl.toNat := by
  have b0 := Bool.toNat_le (s.slot .s0).lines.powerControl
  have b1 := Bool.toNat_le (s.slot .s1).lines.powerControl
  have b2 := Bool.toNat_le (s.slot .s2).lines.powerControl
  have h8 : (place 0 8 4).toNat = 4 := rfl
  have h9 := or_placeBit_toNat (place 0 8 4) 8 (s.slot .s0).lines.powerControl (by omega) (by omega)
  have h10 := or_placeBit_toNat _ 9 (s.slot .s1).lines.powerControl (h9.trans_lt (by omega)) (by omega)
  have h11 := or_placeBit_toNat _ 10 (s.slot .s2).lines.powerControl (h10.trans_lt (by omega)) (by omega)
  have h12 := or_placeBit_toNat _ 11 (s.slot .s3).lines.powerControl (h11.trans_lt (by omega)) (by omega)
  unfold State.strapDword
  omega

theorem Mailbox.status_toNat (m : Mailbox) : m.status.toNat =
    m.state.number + 256 * m.result.number + 65536 * m.goLost.toNat + 16777216 * m.code.toNat := by
  have hstate : m.state.number < 4 := by cases m.state <;> decide
  have hresult : m.result.number < 256 := by cases m.result <;> decide
  have hlost := Bool.toNat_le m.goLost
  have hcode := m.code.isLt
  have h0 := place_toNat 0 2 m.state.number (by omega)
  have h8 := or_place_toNat (place 0 2 m.state.number) 8 8 m.result.number (by omega) (by omega)
  have h16 := or_placeBit_toNat _ 16 m.goLost (h8.trans_lt (by omega)) (by omega)
  have h24 := or_place_toNat _ 24 8 m.code.toNat (h16.trans_lt (by omega)) (by omega)
  unfold Mailbox.status
  omega

/-- Settles O23: the dword, place by place. -/
theorem configSpaceRead : Obligations.ConfigSpaceRead := by
  intro s r t g o hhead
  refine ⟨fun hwaits => ?_, fun hfree => ⟨s.readConfig o, ?_, fun h => ?_, fun h => ?_, fun h => ?_, fun k h => ?_,
    fun h => ?_, fun k h => ?_, fun _ h0 h1 hp hs hr => ?_⟩⟩
  · rw [exec_ingressTake_management hhead, State.takeManagement, if_neg (by simpa using Option.isSome_iff_ne_none.1 hwaits)]
  · rw [exec_ingressTake_management hhead, State.takeManagement, if_pos (by simp [hfree]), State.giveAnswer_eq]
    rfl
  · rw [BitVec.eq_of_toNat_eq (x := o) (y := 0) h]
    rfl
  · rw [BitVec.eq_of_toNat_eq (x := o) (y := 4) h]
    exact s.strapDword_toNat
  · simp only [State.readConfig, configPlace_command h]
  · simp only [State.readConfig, configPlace_param h]
  · simp only [State.readConfig, configPlace_status h, Mailbox.status_toNat]
    cases s.mailbox.state <;> cases s.mailbox.result <;> rfl
  · simp only [State.readConfig, configPlace_response h]
  · obtain hplace | hplace := configPlace_unnamed h0 h1 hp hs hr <;> simp only [State.readConfig, hplace]

/-! ### CONFIG WRITE (R167) -/

section

variable {r : Requester} {t : Tag} {g : Target} {o : Offset} {be : ByteEnables} {data : Dword}

/-- While an answer waits a CONFIG WRITE is held. -/
theorem exec_ingressTake_waits (hhead : s.head = some { tx := .cfgWrite r t g o be data, dest := .management })
    (hwaits : s.waitingAnswer.isSome = true) : exec .ingressTake s = .next s := by
  rw [exec_ingressTake_management hhead, State.takeManagement, if_neg (by simpa using Option.isSome_iff_ne_none.1 hwaits)]

/-- With no answer waiting it is answered and applied. -/
theorem exec_ingressTake_cfgWrite (hhead : s.head = some { tx := .cfgWrite r t g o be data, dest := .management })
    (hfree : s.waitingAnswer = none) :
    exec .ingressTake s = .next ((s.clearHead.giveAnswer r t none).writeConfig o be data) := by
  rw [exec_ingressTake_management hhead, State.takeManagement, if_pos (by simp [hfree])]

theorem exec_configSpaceWrite_waits (hhead : s.head = some { tx := .cfgWrite r t g o be data, dest := .management })
    (hwaits : s.waitingAnswer.isSome = true) : exec .configSpaceWrite s = .next s := by
  show execConfigSpaceWrite s = _
  simp only [execConfigSpaceWrite, hhead]
  rw [if_neg (by simp [Option.isSome_iff_ne_none.1 hwaits])]

theorem exec_configSpaceWrite_free (hhead : s.head = some { tx := .cfgWrite r t g o be data, dest := .management })
    (hfree : s.waitingAnswer = none) (hgo : isGo o be = false) :
    exec .configSpaceWrite s = .next ((s.clearHead.giveAnswer r t none).writeConfig o be data) := by
  show execConfigSpaceWrite s = _
  simp only [execConfigSpaceWrite, hhead, hgo, hfree, Option.isNone_none, Bool.not_false, Bool.and_self, if_true]

end

/-- A write of the area keeps everything of the mailbox but the command dword and the parameters. -/
theorem Mailbox.writeArea_eq (m : Mailbox) (o : Offset) (be : ByteEnables) (data : Dword) :
    m.writeArea o be data =
      { m with command := (m.writeArea o be data).command, params := (m.writeArea o be data).params } := by
  unfold Mailbox.writeArea
  cases configPlace o <;> rfl

/-- Settles O24: the head is held, or merged into the dword its offset names. -/
theorem configSpaceWrite : Obligations.ConfigSpaceWrite := by
  refine ⟨fun s r t g o be data hhead hwaits =>
    ⟨exec_configSpaceWrite_waits hhead hwaits, exec_ingressTake_waits hhead hwaits⟩,
    fun s r t g o be data hhead hfree hno => ?_⟩
  have hgo : isGo o be = false := by
    rw [← Bool.not_eq_true, isGo_iff]
    exact hno
  refine ⟨(s.mailbox.writeArea o be data).command, (s.mailbox.writeArea o be data).params, ?_, ?_, fun h => ?_,
    fun k h => ?_, fun hc hp => ?_⟩
  · rw [exec_configSpaceWrite_free hhead hfree hgo, State.giveAnswer_eq, ← Mailbox.writeArea_eq]
    simp only [State.writeConfig, hgo, Bool.false_eq_true, if_false]
    rfl
  · rw [exec_ingressTake_cfgWrite hhead hfree, exec_configSpaceWrite_free hhead hfree hgo]
  · simp only [Mailbox.writeArea, configPlace_command h]
    exact ⟨trivial, fun b hb => mergeBytes_bit _ _ _ _ hb⟩
  · simp only [Mailbox.writeArea, configPlace_param h]
    refine ⟨trivial, fun j hj => ?_, fun b hb => ?_⟩
    · simp [Vector.getElem_set_ne, Fin.val_ne_of_ne hj.symm]
    · simpa using mergeBytes_bit be s.mailbox.params[k] data b hb
  · obtain ⟨hcommand, hparam⟩ := configPlace_unwritten hc hp
    unfold Mailbox.writeArea
    cases hplace : configPlace o with
    | command => exact absurd hplace hcommand
    | param k => exact absurd hplace (hparam k)
    | partCode | slotCount | go | status | response _ | other => exact ⟨rfl, rfl⟩
/-! ### GO (R170, R171) -/

/-- The rows of commands, each under the code that names it (R176). -/
def commandRows : List (Nat × Instr) :=
  [(0x01, .setWindow), (0x02, .commitWindows), (0x03, .setSlotBus), (0x08, .setPlan), (0x09, .setLimits),
    (0x0A, .setMonitor), (0x0B, .setVisit), (0x0C, .setTimebase), (0x10, .loadStep), (0x11, .setScriptLength),
    (0x12, .commitScript), (0x13, .capture), (0x18, .admitSlot), (0x19, .isolate), (0x1A, .recover), (0x1B, .hold),
    (0x1C, .resume), (0x1D, .abort), (0x1E, .retire), (0x1F, .release), (0x20, .querySlot), (0x21, .readIncident),
    (0x22, .readCounters), (0x28, .setNotice), (0x29, .ackNotices), (0x3F, .resetPart)]

/-- The rows of the commands whose slot field is examined. -/
def slotRows : List (Nat × Instr) :=
  [(0x01, .setWindow), (0x03, .setSlotBus), (0x08, .setPlan), (0x09, .setLimits), (0x0A, .setMonitor),
    (0x10, .loadStep), (0x11, .setScriptLength), (0x12, .commitScript), (0x13, .capture), (0x18, .admitSlot),
    (0x19, .isolate), (0x1A, .recover), (0x1B, .hold), (0x1C, .resume), (0x1D, .abort), (0x1E, .retire),
    (0x1F, .release), (0x20, .querySlot), (0x21, .readIncident), (0x22, .readCounters)]

/-- A command's row runs the effect that the code table gives for its code. -/
theorem exec_commandRow {code : Nat} {c : Instr} (h : (code, c) ∈ commandRows) :
    ∃ effect, commandEffect? code = some effect ∧ ∀ s, exec c s = .next (s.runGo code effect) := by
  simp only [commandRows, List.mem_cons, Prod.mk.injEq, List.not_mem_nil, or_false] at h
  rcases h with ⟨rfl, rfl⟩ | ⟨rfl, rfl⟩ | ⟨rfl, rfl⟩ | ⟨rfl, rfl⟩ | ⟨rfl, rfl⟩ | ⟨rfl, rfl⟩ | ⟨rfl, rfl⟩ | ⟨rfl, rfl⟩ |
    ⟨rfl, rfl⟩ | ⟨rfl, rfl⟩ | ⟨rfl, rfl⟩ | ⟨rfl, rfl⟩ | ⟨rfl, rfl⟩ | ⟨rfl, rfl⟩ | ⟨rfl, rfl⟩ | ⟨rfl, rfl⟩ | ⟨rfl, rfl⟩ |
    ⟨rfl, rfl⟩ | ⟨rfl, rfl⟩ | ⟨rfl, rfl⟩ | ⟨rfl, rfl⟩ | ⟨rfl, rfl⟩ | ⟨rfl, rfl⟩ | ⟨rfl, rfl⟩ | ⟨rfl, rfl⟩ | ⟨rfl, rfl⟩ <;>
  exact ⟨_, rfl, fun _ => rfl⟩

/-- A slot command's row begins with the slot check of R171. -/
theorem exec_slotRow {code : Nat} {c : Instr} (h : (code, c) ∈ slotRows) :
    ∃ f : State → SlotId → Reply, ∀ s, exec c s = .next (s.runGo code fun t => (t.withSlot (f t)).complete) := by
  simp only [slotRows, List.mem_cons, Prod.mk.injEq, List.not_mem_nil, or_false] at h
  rcases h with ⟨rfl, rfl⟩ | ⟨rfl, rfl⟩ | ⟨rfl, rfl⟩ | ⟨rfl, rfl⟩ | ⟨rfl, rfl⟩ | ⟨rfl, rfl⟩ | ⟨rfl, rfl⟩ | ⟨rfl, rfl⟩ |
    ⟨rfl, rfl⟩ | ⟨rfl, rfl⟩ | ⟨rfl, rfl⟩ | ⟨rfl, rfl⟩ | ⟨rfl, rfl⟩ | ⟨rfl, rfl⟩ | ⟨rfl, rfl⟩ | ⟨rfl, rfl⟩ | ⟨rfl, rfl⟩ |
    ⟨rfl, rfl⟩ | ⟨rfl, rfl⟩ | ⟨rfl, rfl⟩ <;>
  exact ⟨_, fun _ => rfl⟩

/-- The code table names no other code. -/
theorem commandEffect_none {code : Nat} (h : code ∉ commandRows.map Prod.fst) : commandEffect? code = none := by
  unfold commandEffect?
  split
  case h_27 => rfl
  all_goals exact absurd (by decide) h

section

variable {r : Requester} {t : Tag} {code : Nat}

/-- No GO can be taken while an answer waits. -/
theorem State.goHead_waits (hwaits : s.waitingAnswer.isSome = true) : s.goHead = none := by
  unfold State.goHead
  split
  · rw [if_neg (by simp [Option.isSome_iff_ne_none.1 hwaits])]
  · rfl

theorem State.runGo_waits (hwaits : s.waitingAnswer.isSome = true) (effect : State → State) : s.runGo code effect = s := by
  rw [State.runGo, State.goHead_waits hwaits]

theorem State.GoReady.commandCode (h : s.GoReady r t code) : Machine.commandCode s.mailbox.command = code := by
  obtain ⟨-, -, -, hcode⟩ := h
  rw [← hcode]
  simp [Machine.commandCode, field]

/-- INGRESS_TAKE of a GO that finds the mailbox not BUSY runs the command its code names (R170). -/
theorem State.GoReady.exec_ingressTake (h : s.GoReady r t code) : exec .ingressTake s = .next (s.afterGo r t).runCommand := by
  obtain ⟨⟨g, be, data, hhead, hbe⟩, hfree, hbusy, -⟩ := h
  have hstate : (s.clearHead.giveAnswer r t none).mailbox.state ≠ .busy := by
    rw [State.giveAnswer_eq]
    exact hbusy
  rw [exec_ingressTake_cfgWrite hhead hfree, State.writeConfig, if_pos (isGo_iff.2 ⟨rfl, hbe⟩), if_neg hstate,
    ← State.beginGo_eq]
  rfl

/-- The command that a GO starts is the one of the code it carries. -/
theorem State.GoReady.runCommand (h : s.GoReady r t code) : (s.afterGo r t).runCommand =
    match commandEffect? code with
    | some effect => effect (s.afterGo r t)
    | none => (s.afterGo r t).unknownCommand := by
  have hcode : Machine.commandCode (s.afterGo r t).mailbox.copyCommand = code := h.commandCode
  rw [State.runCommand, hcode] <;> rfl

end

/-- Settles O25: the GO is held, lost, or refused for its code or for its slot. -/
theorem goWithoutCommand : Obligations.GoWithoutCommand := by
  refine ⟨fun s r t g be data hhead hbe hwaits c hc => ?_, fun s r t g be data hhead hbe hfree hbusy => ?_,
    fun s r t code hready hcode => ?_, fun s r t code c hready hrow hslot => ?_⟩
  · obtain rfl | hc := List.mem_cons.1 hc
    · exact exec_ingressTake_waits hhead hwaits
    obtain rfl | hc := List.mem_cons.1 hc
    · exact exec_configSpaceWrite_waits hhead hwaits
    obtain rfl | hc := List.mem_cons.1 hc
    · show execGoLost s = _
      rw [execGoLost, State.goHead_waits hwaits]
    obtain rfl | hc := List.mem_cons.1 hc
    · show execUnknownCommand s = _
      rw [execUnknownCommand, State.runGo_waits hwaits]
      split <;> rfl
    obtain ⟨row, hrow, rfl⟩ := List.mem_map.1 (show c ∈ commandRows.map Prod.snd from hc)
    obtain ⟨effect, -, hexec⟩ := exec_commandRow hrow
    rw [hexec, State.runGo_waits hwaits]
  · have hgo : isGo 0x180 be = true := isGo_iff.2 ⟨rfl, hbe⟩
    have hlost : exec .goLost s = .next (s.clearHead.giveAnswer r t none).loseGo := by
      show execGoLost s = _
      simp only [execGoLost, State.goHead, hhead, hgo, hfree, Option.isNone_none, Bool.and_self, if_true, hbusy]
    refine ⟨hlost.trans ?_, ?_⟩
    · rw [State.giveAnswer_eq]
      rfl
    · have hstate : (s.clearHead.giveAnswer r t none).mailbox.state = .busy := by
        rw [State.giveAnswer_eq]
        exact hbusy
      rw [hlost, exec_ingressTake_cfgWrite hhead hfree, State.writeConfig, if_pos hgo, if_pos hstate]
  · have heffect : commandEffect? code = none := commandEffect_none hcode
    have hrow : exec .unknownCommand s = .next (s.afterGo r t).unknownCommand := by
      show execUnknownCommand s = _
      rw [execUnknownCommand, hready.commandCode, heffect, hready.runGo]
    refine ⟨hrow.trans (by rw [State.unknownCommand, State.refuse_complete]), ?_⟩
    rw [hready.exec_ingressTake, hready.runCommand, heffect, hrow]
  · obtain ⟨f, hexec⟩ := exec_slotRow hrow
    rw [hexec, hready.runGo, State.withSlot_refuses hslot, State.refuse_complete]

/-- Settles O26: both are the effect of the code table. -/
theorem takeRunsTheCommand : Obligations.TakeRunsTheCommand := by
  intro s r t code c hready hrow
  obtain ⟨effect, heffect, hexec⟩ := exec_commandRow hrow
  rw [hexec, hready.runGo, hready.exec_ingressTake, hready.runCommand, heffect]

end Sys2Proof.Machine

/-! The sequencer's events as the views of Safety.lean describe them (chapters 5 and 6). -/

namespace Sys2Proof.Machine

variable {s : State} {i : SlotId}

/-! ### Replacing a slot -/

theorem State.setRail_withSlotAt (s : State) (i : SlotId) (p : Slot) (r : RailId) (v : Rail) :
    (s.withSlotAt i p).setRail r v = (s.setRail r v).withSlotAt i p := by
  cases r <;> rfl

@[simp] theorem State.rail_withSlotAt (s : State) (i : SlotId) (p : Slot) (r : RailId) : (s.withSlotAt i p).rail r = s.rail r := by
  cases r <;> rfl

theorem State.admissionFailed_withSlotAt (s : State) (i : SlotId) {p q : Slot} (h : p.stopped = q.stopped) :
    (s.withSlotAt i p).admissionFailed i = (s.withSlotAt i q).admissionFailed i := by
  simp only [State.admissionFailed, State.withSlotAt_slot, State.withSlotAt_withSlotAt, h]

/-! ### The end of DRAINING (R84, R85) -/

theorem State.automatic_iff : s.automatic i = true ↔ ∃ c, (s.slot i).current.firstCause = .trip c ∧ c ≠ .external ∧
    (s.slot i).seq.plan.autoCauses.getLsbD c.number = true ∧ s.kill = false := by
  unfold State.automatic
  split <;> simp_all [CauseSet.has]

/-- A slot as it stands when its drain has led to FENCED. -/
def Slot.drainFenced (p : Slot) : Slot :=
  { p with
    traffic := { p.traffic with ort := p.fencedOrt }
    seq := { p.seq with state := .fenced, level := none, drainTimer := none } }

theorem State.endDraining_of_admission (hk : (s.slot i).current.kind = .admission) : s.endDraining i =
    (s.withSlotAt i { s.slot i with traffic := { (s.slot i).traffic with ort := (s.slot i).fencedOrt } }).admissionFailed i := by
  simp only [State.endDraining, hk, State.failAdmission_eq, State.modSlot_withSlotAt, Slot.fenceAll_eq]
  exact s.admissionFailed_withSlotAt i rfl

theorem State.endDraining_of_fault (hk : (s.slot i).current.kind = .fault) : s.endDraining i =
    if s.automatic i then (s.withSlotAt i (s.slot i).drainFenced).startRecovery i
    else s.withSlotAt i { (s.slot i).drainFenced with seq := { (s.slot i).drainFenced.seq with held := false } } := by
  have hauto : (s.withSlotAt i (s.slot i).drainFenced).automatic i = s.automatic i := by
    rw [Bool.eq_iff_iff, State.automatic_iff, State.automatic_iff, State.withSlotAt_slot]
    rfl
  simp only [State.endDraining, hk, State.modSlot_withSlotAt, Slot.fenceAll_eq, State.withSlotAt_slot,
    State.withSlotAt_withSlotAt]
  rw [← hauto]
  rfl

theorem State.startRecovery_eq (s : State) (i : SlotId) :
    s.startRecovery i = (s.withSlotAt i (s.slot i).sampled).climb i false := by
  rw [State.startRecovery, State.modSlot_withSlotAt, Slot.takeSample_eq]

theorem Slot.ranOut_iff {p : Slot} {t : UnitTimer} : p.ranOut t = true ↔ p.seq.held = false ∧ t = some 0 := by
  simp [Slot.ranOut]

theorem Slot.not_ranOut_of_held {p : Slot} (h : p.seq.held = true) (t : UnitTimer) : p.ranOut t = false := by
  simp [Slot.ranOut, h]

theorem Slot.expiring_iff {p : Slot} {now : Ticks} {n : Nat} : p.expiring now n = true ↔
    ∃ e ∈ p.traffic.ort, e.number = n ∧ e.state = .live ∧ (now - e.deadline).toNat < 2147483648 := by
  simp [Slot.expiring, Entry.hasNumber, Entry.isLive, reached, and_assoc]

/-- The entry that expires is fenced. -/
theorem fence_expiring {ort older younger : List Entry} {e : Entry} (hort : ort = older ++ e :: younger)
    (hold : ∀ x ∈ older, x.number ≠ e.number) (hl : e.state = .live) :
    updateFirst (fun x => x.hasNumber e.number && x.isLive) Entry.fence ort =
      older ++ { e with state := .fenced } :: younger := by
  rw [hort, updateFirst_split]
  · rw [Entry.fence, if_pos (by simp [Entry.isLive, hl])]
  · intro x hx
    simp [Entry.hasNumber, hold x hx]
  · simp [Entry.hasNumber, Entry.isLive, hl]

/-- Settles O39: the end of DRAINING by kind of incident and first cause, and the events that reach it. -/
theorem drainEnds : Obligations.DrainEnds := by
  intro s i
  refine ⟨State.endDraining_of_admission, fun hk hauto => ?_, fun hk hauto => ?_, fun hs ht hh => ?_, fun hno => ?_,
    fun older younger e hs hort hold hl hreached => ?_, fun n hnone => ?_⟩
  · rw [State.endDraining_of_fault hk, if_pos (State.automatic_iff.2 hauto), State.startRecovery_eq,
      State.withSlotAt_slot, State.withSlotAt_withSlotAt]
    rfl
  · rw [State.endDraining_of_fault hk, if_neg fun h => hauto (State.automatic_iff.1 h)]
    rfl
  · show execDrainTimerRunsOut i s = _
    rw [execDrainTimerRunsOut, if_pos (by simp [hs, Slot.ranOut_iff, hh, ht])]
  · show execDrainTimerRunsOut i s = _
    rw [execDrainTimerRunsOut, if_neg]
    simp only [Bool.and_eq_true, beq_iff_eq, Slot.ranOut_iff]
    rintro ⟨hs, -, ht⟩
    exact hno.elim (fun h => h hs) fun h => h ht
  · have hexp : (s.slot i).expiring s.time.now e.number = true :=
      Slot.expiring_iff.2 ⟨e, by rw [hort]; simp, rfl, hl, hreached⟩
    show execExpiry i e.number s = _
    simp only [execExpiry, hexp, if_true, Slot.serving, hs, SlotState.serving, Bool.false_eq_true, if_false,
      State.modSlot_withSlotAt, fence_expiring hort hold hl, State.drainIfIdle, State.withSlotAt_slot, true_and]
  · show execExpiry i n s = _
    rw [execExpiry, if_neg]
    rintro h
    obtain ⟨e, he, hn, hl, hreached⟩ := Slot.expiring_iff.1 h
    exact absurd (hnone e he hn hl) (Nat.not_le.2 hreached)

/-! ### The ladder (R100 to R113) -/

namespace Slot

variable {p : Slot}

/-- The test that the ladder puts to a level. -/
def calls (p : Slot) (l : Level) : Bool :=
  decide (p.seq.sample.startLevel.rank ≤ l.rank) && p.available l &&
    decide (p.seq.attempts.get l < p.seq.sample.attempts.get l)

theorem levelCalledFor_eq (p : Slot) : p.levelCalledFor = [Level.function, Level.slot, Level.power].find? p.calls := rfl

theorem calls_iff {l : Level} : p.calls l = true ↔ p.Callable l := by
  cases l <;> simp [Slot.calls, Slot.Callable, Slot.available, and_assoc]

theorem levelCalledFor_none (h : ∀ l, ¬p.Callable l) : p.levelCalledFor = none :=
  List.find?_eq_none.2 fun l _ hl => h l (calls_iff.1 hl)

theorem levelCalledFor_function (h : p.Callable .function) : p.levelCalledFor = some .function :=
  List.find?_cons_of_pos (calls_iff.2 h)

theorem levelCalledFor_slot (hf : ¬p.Callable .function) (h : p.Callable .slot) : p.levelCalledFor = some .slot := by
  rw [levelCalledFor_eq, List.find?_cons_of_neg (mt calls_iff.1 hf), List.find?_cons_of_pos (calls_iff.2 h)]

theorem levelCalledFor_power (hf : ¬p.Callable .function) (hs : ¬p.Callable .slot) (h : p.Callable .power) :
    p.levelCalledFor = some .power := by
  rw [levelCalledFor_eq, List.find?_cons_of_neg (mt calls_iff.1 hf), List.find?_cons_of_neg (mt calls_iff.1 hs),
    List.find?_cons_of_pos (calls_iff.2 h)]

theorem callable_of_levelCalledFor {l : Level} (h : p.levelCalledFor = some l) : p.Callable l :=
  calls_iff.1 (List.find?_some (p.levelCalledFor_eq ▸ h))

theorem spendFunction_eq (p : Slot) : p.spendFunction =
    { p with
      seq := { p.seq with attempts := { p.seq.attempts with function := p.seq.sample.attempts.function } }
      current := if p.current.outcome = .pending then
          { p.current with
            attempts := { p.seq.attempts with function := p.seq.sample.attempts.function }
            highest := if p.current.highest = none then some .function else p.current.highest }
        else p.current } := by
  have hlow : levelNumber p.current.highest < Level.function.rank ↔ p.current.highest = none := by
    rcases p.current.highest with _ | _ | _ | _ <;> decide
  unfold Slot.spendFunction Slot.raiseHighest Slot.setAttempts Slot.notePending
  by_cases hp : p.current.outcome = .pending
  · simp only [hp, hlow, if_true, PerLevel.set]
  · simp [hp, PerLevel.set]

theorem attempting_eq_of_reset (p : Slot) (l : Level) (afterFailure : Bool) (hl : l ≠ .function) :
    (if afterFailure && l != .function then (p.beginLevel l).assertReset else p.beginLevel l) =
      { p.attempting l with lines := { p.lines with slotReset := p.lines.slotReset || afterFailure } } := by
  rw [Slot.beginLevel_eq]
  cases afterFailure <;> simp [hl, Slot.assertReset, Slot.attempting]

end Slot

/-- The grant is requested, and given at once where the rail is free (R109, R130). -/
theorem State.enterRailWait_free (hr : (s.rail i.rail).holder = none) : s.enterRailWait i =
    (s.setRail i.rail { s.rail i.rail with holder := some i }).withSlotAt i (s.slot i).inPowerOff := by
  simp only [State.enterRailWait, hr, State.modSlot_withSlotAt, State.setRail_withSlotAt, State.withSlotAt_withSlotAt,
    State.withSlotAt_slot, Slot.enterPowerOff_eq]
  rfl

theorem State.enterRailWait_taken (hr : (s.rail i.rail).holder.isSome = true) : s.enterRailWait i =
    (s.setRail i.rail { s.rail i.rail with waiting := some i }).withSlotAt i ((s.slot i).inPhase .railWait none) := by
  obtain ⟨j, hj⟩ := Option.isSome_iff_exists.1 hr
  simp only [State.enterRailWait, hj, State.modSlot_withSlotAt, State.setRail_withSlotAt]
  rfl

/-- FUNCTION is spent in the same event while the link is down (log 16). -/
theorem State.climb_spent (hf : (s.slot i).Callable .function) (hlink : (s.slot i).lines.linkUp = false)
    (afterFailure : Bool) : s.climb i afterFailure = (s.withSlotAt i (s.slot i).spendFunction).climb i true := by
  have hspent : ∀ l, (s.slot i).spendFunction.levelCalledFor = some l → l ≠ .function := by
    rintro l hl rfl
    obtain ⟨-, -, -, hleft⟩ := Slot.callable_of_levelCalledFor hl
    rw [Slot.spendFunction_eq] at hleft
    exact absurd hleft (Nat.lt_irrefl _)
  simp only [State.climb, Slot.levelCalledFor_function hf, hlink, Bool.false_eq_true, if_false,
    State.modSlot_withSlotAt, State.withSlotAt_slot]
  cases hl : (s.slot i).spendFunction.levelCalledFor with
  | none => rfl
  | some l =>
    cases l with
    | function => exact absurd rfl (hspent _ hl)
    | slot => rfl
    | power => rfl

/-- Settles O40: the ladder by the lowest level that can be called for. -/
theorem ladderClimbs : Obligations.LadderClimbs := by
  intro s i afterFailure
  refine ⟨fun hnone => ?_, fun w hf hw hlink => ?_, fun hf hlink => ?_, fun hf hs => ?_, fun hf hs hp => ?_⟩
  · simp only [State.climb, Slot.levelCalledFor_none hnone, State.retire_eq]
  · simp only [State.climb, Slot.levelCalledFor_function hf, hlink, if_true, State.beginAttempt, bne_self_eq_false,
      Bool.and_false, Bool.false_eq_true, if_false, State.enterFirstPhase, State.modSlot_withSlotAt,
      State.withSlotAt_slot, State.withSlotAt_withSlotAt, Slot.beginLevel_eq, Slot.enterFunctionReset]
    rw [Slot.issue_eq (a := .write w.offset 0xF w.data)]
    · simp only [units, Nat.mul_comm]
      rfl
    · simp [Slot.phaseAccess, Slot.enterPhase, Slot.attempting, hw]
  · rw [State.climb_spent hf hlink, Slot.spendFunction_eq]
  · simp only [State.climb, Slot.levelCalledFor_slot hf hs, State.beginAttempt,
      Slot.attempting_eq_of_reset _ .slot afterFailure (by decide), State.enterFirstPhase, State.modSlot_withSlotAt,
      State.withSlotAt_slot, State.withSlotAt_withSlotAt, Slot.enterResetAssert_eq]
    rfl
  · have hbegin : s.climb i afterFailure = (s.withSlotAt i
        { (s.slot i).attempting .power with
          lines := { (s.slot i).lines with slotReset := (s.slot i).lines.slotReset || afterFailure } }).enterRailWait i := by
      simp only [State.climb, Slot.levelCalledFor_power hf hs hp, State.beginAttempt,
        Slot.attempting_eq_of_reset _ .power afterFailure (by decide), State.enterFirstPhase, State.modSlot_withSlotAt]
    refine ⟨fun hr => ?_, fun hr => ?_⟩
    · rw [hbegin, State.enterRailWait_free (by rw [State.rail_withSlotAt]; exact hr)]
      simp only [State.rail_withSlotAt, State.withSlotAt_slot, State.setRail_withSlotAt, State.withSlotAt_withSlotAt]
    · rw [hbegin, State.enterRailWait_taken (by rw [State.rail_withSlotAt]; exact hr)]
      simp only [State.rail_withSlotAt, State.withSlotAt_slot, State.setRail_withSlotAt, State.withSlotAt_withSlotAt]

/-! ### Failure (R112, R123) -/

theorem State.failAttempt_of_admission (hk : (s.slot i).current.kind = .admission) :
    s.failAttempt i = s.admissionFailed i := by
  simp only [State.failAttempt, hk, State.failAdmission_eq]

theorem State.failAttempt_of_fault (hk : (s.slot i).current.kind = .fault) : s.failAttempt i =
    ((s.withSlotAt i (if (s.slot i).seq.phase = some .powerOn then
      { (s.slot i).stopped.attemptFailed with
        lines := { (s.slot i).stopped.attemptFailed.lines with powerEnable := false } }
      else (s.slot i).stopped.attemptFailed)).releaseRail i).climb i true := by
  simp only [State.failAttempt, hk, State.modSlot_withSlotAt, Slot.stopSequence_eq, Slot.countAttempt_eq, Slot.setPower,
    Bool.false_and]

/-- Settles O41: the timers that fail an attempt, and none of a HELD slot. -/
theorem attemptFails : Obligations.AttemptFails := by
  intro s i
  refine ⟨State.failAttempt_of_admission, State.failAttempt_of_fault, fun hs hh =>
    ⟨fun hp ht => ?_, fun hp ht => ?_, fun hp hseen ht => ?_, fun hp ht => ?_, fun hp ht => ?_⟩, fun hh c hc => ?_⟩
  · exact congrArg _ (if_pos (Slot.phaseRanOut_iff.2 ⟨hs, hp, Slot.ranOut_iff.2 ⟨hh, ht⟩⟩))
  · exact congrArg _ (if_pos (Slot.phaseRanOut_iff.2 ⟨hs, hp, Slot.ranOut_iff.2 ⟨hh, ht⟩⟩))
  · have hout := Slot.phaseRanOut_iff.2 ⟨hs, hp, Slot.ranOut_iff.2 ⟨hh, ht⟩⟩
    exact congrArg _ (if_pos (by rw [hout, hseen]; rfl))
  · exact congrArg _ (if_pos (Slot.stepRanOut_iff.2 ⟨hs, hp, Slot.ranOut_iff.2 ⟨hh, ht⟩⟩))
  · exact congrArg _ (if_pos (Slot.stepRanOut_iff.2 ⟨hs, hp, Slot.ranOut_iff.2 ⟨hh, ht⟩⟩))
  · have hnone := Slot.not_ranOut_of_held hh
    simp only [List.mem_cons, List.not_mem_nil, or_false] at hc
    rcases hc with rfl | rfl | rfl | rfl | rfl | rfl | rfl | rfl | rfl | rfl | rfl | rfl | rfl | rfl | rfl <;>
    refine congrArg _ (if_neg ?_) <;> simp [Slot.phaseRanOut, Slot.stepRanOut, hnone]

/-! ### The phases of SLOT and POWER (R106 to R110) -/

/-- RESET_RELEASE is entered and left: LINK_WAIT, or SETTLE where the link is up (R106, R107). -/
theorem State.enterResetRelease_eq (s : State) (i : SlotId) : s.enterResetRelease i =
    if (s.slot i).lines.linkUp then
      s.settling i { s.slot i with lines := { (s.slot i).lines with slotReset := false } }
    else s.withSlotAt i (({ s.slot i with lines := { (s.slot i).lines with slotReset := false } } : Slot).inPhase .linkWait
      (some (1024 * (s.slot i).seq.sample.linkLimit))) := by
  simp only [State.enterResetRelease, State.modSlot_withSlotAt, State.enterSettle_eq, State.withSlotAt_slot,
    State.settling, State.withSlotAt_withSlotAt, units, Nat.mul_comm]
  rfl

theorem Slot.enterPowerOn_eq (p : Slot) : p.enterPowerOn =
    { ({ p with lines := { p.lines with powerEnable := p.lines.powerControl } } : Slot).inPhase .powerOn
        (some (1024 * if p.lines.pwrgd then p.seq.sample.onSettle else p.seq.sample.pwrgdLimit)) with
      seq := { (({ p with lines := { p.lines with powerEnable := p.lines.powerControl } } : Slot).inPhase .powerOn
        (some (1024 * if p.lines.pwrgd then p.seq.sample.onSettle else p.seq.sample.pwrgdLimit))).seq with
          pwrgdSeen := p.lines.pwrgd } } := by
  cases hp : p.lines.pwrgd <;>
    simp [Slot.enterPowerOn, Slot.setPower, Slot.enterPhase, Slot.startOnSettle, Slot.inPhase, hp, units, Nat.mul_comm]

/-- The holder gives up its grant, and no request waits. -/
theorem State.releaseRail_last (hh : (s.rail i.rail).holder = some i) (hw : (s.rail i.rail).waiting = none) :
    s.releaseRail i = s.setRail i.rail { holder := none, waiting := none } := by
  simp only [State.releaseRail, hh, if_true, hw]

/-- The holder gives up its grant, which passes to the waiting partner (R131). -/
theorem State.releaseRail_passes {j : SlotId} (hh : (s.rail i.rail).holder = some i)
    (hw : (s.rail i.rail).waiting = some j) : s.releaseRail i =
      (s.setRail i.rail { holder := some j, waiting := none }).withSlotAt j (s.slot j).inPowerOff := by
  simp only [State.releaseRail, hh, if_true, hw, State.modSlot_withSlotAt, State.slot_setRail, Slot.enterPowerOff_eq]

@[simp] theorem State.withSlotAt_slot_ne (s : State) {i j : SlotId} (p : Slot) (h : j ≠ i) :
    (s.withSlotAt i p).slot j = s.slot j := PerSlot.get_set_ne _ _ _ _ h

/-- Settles O42: the phases by timers and edges. -/
theorem phasesAdvance : Obligations.PhasesAdvance := by
  intro s i
  refine ⟨fun hs ht hh => ⟨fun hp => ?_, fun hp => ?_, fun hp hseen hhold => ?_⟩, fun hup => ?_, fun hdown hwait => ?_,
    fun hdown hwait => ?_, fun hup => ?_, fun hdown => ?_⟩
  · refine congrArg _ ((if_pos (Slot.phaseRanOut_iff.2 ⟨hs, hp, Slot.ranOut_iff.2 ⟨hh, ht⟩⟩)).trans ?_)
    exact s.enterResetRelease_eq i
  · refine congrArg _ ((if_pos (Slot.phaseRanOut_iff.2 ⟨hs, hp, Slot.ranOut_iff.2 ⟨hh, ht⟩⟩)).trans ?_)
    rw [State.modSlot_withSlotAt, Slot.enterPowerOn_eq]
  · have hout := Slot.phaseRanOut_iff.2 ⟨hs, hp, Slot.ranOut_iff.2 ⟨hh, ht⟩⟩
    have hexec : exec (.onSettleRunsOut i) s = .next ((s.releaseRail i).enterResetRelease i) :=
      congrArg _ (if_pos (by rw [hout, hseen]; rfl))
    refine ⟨fun hw => ?_, fun j hj hw => ?_⟩
    · rw [hexec, State.releaseRail_last hhold hw, State.enterResetRelease_eq, State.slot_setRail]
    · rw [hexec, State.releaseRail_passes hhold hw, State.enterResetRelease_eq, State.withSlotAt_slot_ne _ _ hj.symm,
        State.slot_setRail]
  · exact congrArg _ (if_pos hup)
  · refine congrArg _ ((if_neg (by simp [hdown])).trans ?_)
    simp only [if_pos hwait, State.modSlot_withSlotAt, State.enterSettle_eq, State.withSlotAt_slot, State.settling,
      State.withSlotAt_withSlotAt]
    rfl
  · refine congrArg _ ((if_neg (by simp [hdown])).trans ?_)
    exact if_neg hwait
  · exact congrArg _ (if_pos hup)
  · refine congrArg _ ((if_neg (by simp [hdown])).trans ?_)
    rw [State.modSlot_withSlotAt]
    refine congrArg _ ?_
    split
    · simp only [Slot.startOnSettle, Slot.setPwrgd, units, Nat.mul_comm]
    · rfl

/-! ### Back to service (R103, R108, R111, R114, R115) -/

theorem State.probating_withSlotAt (s : State) (i : SlotId) (p q : Slot) :
    (s.withSlotAt i p).probating i q = s.probating i q := by
  simp only [State.probating, State.withSlotAt_withSlotAt]

/-- Settles O43: SETTLE, the script's steps and PROBATION, each with what follows it. -/
theorem serviceResumes : Obligations.ServiceResumes := by
  intro s i
  refine ⟨fun hr => ?_, fun hr hempty => ?_, fun st rest hr hscript => ?_, fun k st hp hstep hnext => ?_,
    fun k hstep hnext => ?_, fun hh => ⟨fun hs hp ht => ?_, fun hs hp ht => ?_, fun hs ht => ?_⟩⟩
  · have hr' : (s.slot i).restores = false := hr
    rw [State.settleDone, hr', if_neg Bool.false_ne_true, State.enterProbation_eq]
  · have hr' : (s.slot i).restores = true := hr
    rw [State.settleDone, if_pos hr', State.enterRestoring]
    simp only [hempty, List.getElem?_nil, State.enterProbation_eq, State.modSlot_withSlotAt, State.withSlotAt_slot,
      State.probating_withSlotAt]
    rfl
  · have hr' : (s.slot i).restores = true := hr
    rw [State.settleDone, if_pos hr', State.enterRestoring]
    simp only [hscript, List.getElem?_cons_zero, State.modSlot_withSlotAt, State.withSlotAt_slot,
      State.withSlotAt_withSlotAt]
    rw [Slot.startStep_eq _ _ _ rfl (by rw [Slot.enterPhase]; exact congrArg (·[0]?) hscript)]
    rfl
  · rw [State.passStep]
    simp only [hstep, hnext, State.modSlot_withSlotAt]
    rw [Slot.startStep_eq _ _ _ hp hnext]
  · rw [State.passStep]
    simp only [hstep, hnext, State.restoreSucceeds, State.enterProbation_eq]
  · exact congrArg _ (if_pos (Slot.phaseRanOut_iff.2 ⟨hs, hp, Slot.ranOut_iff.2 ⟨hh, ht⟩⟩))
  · exact congrArg _ (if_pos (Slot.stepRanOut_iff.2 ⟨hs, hp, Slot.ranOut_iff.2 ⟨hh, ht⟩⟩))
  · refine congrArg _ ((if_pos ?_).trans (s.goOnline_eq i))
    simp [hs, Slot.ranOut_iff, hh, ht]

end Sys2Proof.Machine

/-! Detection and trips (chapter 4): what trips a serving slot, and what the same events do to any other. -/

namespace Sys2Proof.Machine

variable {s t u : State} {i : SlotId} {p : Slot}

/-! ### The number of an incident stands -/

/-- What a record keeps from its opening to its end: its number, its kind and its first cause (R154). -/
def Slot.origin (p : Slot) : BitVec 16 × IncidentKind × FirstCause :=
  (p.current.sequence, p.current.kind, p.current.firstCause)

/-- No incident opens between two states. -/
structure State.SameOrigins (s t : State) : Prop where
  sequence : t.sequence = s.sequence
  origin   : ∀ j, (t.slot j).origin = (s.slot j).origin

namespace State.SameOrigins

theorem refl (s : State) : s.SameOrigins s := ⟨rfl, fun _ => rfl⟩

theorem trans (h : s.SameOrigins t) (k : t.SameOrigins u) : s.SameOrigins u :=
  ⟨k.sequence.trans h.sequence, fun j => (k.origin j).trans (h.origin j)⟩

theorem modSlot (s : State) {f : Slot → Slot} (h : (f (s.slot i)).origin = (s.slot i).origin) : s.SameOrigins (s.modSlot i f) := by
  refine ⟨rfl, fun j => ?_⟩
  rw [State.slot_modSlot]
  split
  · next hj => rw [hj, h]
  · rfl

theorem setRail (s : State) (r : RailId) (v : Rail) : s.SameOrigins (s.setRail r v) :=
  ⟨by simp, fun j => by simp⟩

theorem raiseSlot (s : State) (i : SlotId) : s.SameOrigins (s.raiseSlot i) := ⟨by simp, fun j => by simp⟩

end State.SameOrigins

theorem Slot.notePending_origin (p : Slot) {f : Incident → Incident} (hn : (f p.current).sequence = p.current.sequence := by rfl)
    (hk : (f p.current).kind = p.current.kind := by rfl) (hc : (f p.current).firstCause = p.current.firstCause := by rfl) :
    (p.notePending f).origin = p.origin := by
  unfold Slot.notePending
  split
  · simp only [Slot.origin, hn, hk, hc]
  · rfl

theorem Slot.setAttempts_origin (p : Slot) (a : PerLevel) : (p.setAttempts a).origin = p.origin :=
  Slot.notePending_origin _

theorem Slot.countAttempt_origin (p : Slot) : p.countAttempt.origin = p.origin := by
  unfold Slot.countAttempt
  split
  · exact p.setAttempts_origin _
  · rfl

theorem Slot.beginLevel_origin (p : Slot) (l : Level) : (p.beginLevel l).origin = p.origin := Slot.notePending_origin _

theorem Slot.takeSample_origin (p : Slot) : p.takeSample.origin = p.origin :=
  Slot.setAttempts_origin { p with seq := { p.seq with sample := p.seq.plan } } _

/-- What leaves the record as it is leaves its origin. -/
theorem Slot.origin_of_current {q : Slot} (h : q.current = p.current := by simp) : q.origin = p.origin := by
  simp only [Slot.origin, h]

namespace State.SameOrigins

theorem closeIncident (s : State) (i : SlotId) (o : IncidentOutcome) : s.SameOrigins (s.closeIncident i o) := by
  simp only [State.closeIncident]
  split
  · exact (modSlot s rfl).trans ((modSlot _ rfl).trans (raiseSlot _ i))
  · exact modSlot s rfl

theorem enterRailWait (s : State) (i : SlotId) : s.SameOrigins (s.enterRailWait i) := by
  simp only [State.enterRailWait]
  split
  · exact (modSlot s rfl).trans ((setRail _ _ _).trans (modSlot _ Slot.origin_of_current))
  · exact (modSlot s rfl).trans (setRail _ _ _)

theorem releaseRail (s : State) (i : SlotId) : s.SameOrigins (s.releaseRail i) := by
  simp only [State.releaseRail]
  split
  · split
    · exact (setRail s _ _).trans (modSlot _ Slot.origin_of_current)
    · exact setRail s _ _
  · split
    · exact setRail s _ _
    · exact refl s

theorem retire (s : State) (i : SlotId) (a : RetireAction) : s.SameOrigins (s.retire i a) := by
  refine (modSlot s ?_).trans ((releaseRail _ i).trans (closeIncident _ i _))
  cases a <;> exact Slot.origin_of_current

theorem failAdmission (s : State) (i : SlotId) : s.SameOrigins (s.failAdmission i) :=
  (modSlot s Slot.origin_of_current).trans ((releaseRail _ i).trans (closeIncident _ i _))

theorem enterFirstPhase (s : State) (i : SlotId) (l : Level) : s.SameOrigins (s.enterFirstPhase i l) := by
  cases l
  · exact modSlot s Slot.origin_of_current
  · exact modSlot s Slot.origin_of_current
  · exact enterRailWait s i

theorem beginAttempt (s : State) (i : SlotId) (l : Level) (afterFailure : Bool) :
    s.SameOrigins (s.beginAttempt i l afterFailure) := by
  refine (modSlot s ?_).trans (enterFirstPhase _ i l)
  split
  · exact Slot.beginLevel_origin _ l
  · exact Slot.beginLevel_origin _ l

theorem climb (s : State) (i : SlotId) (afterFailure : Bool) : s.SameOrigins (s.climb i afterFailure) := by
  unfold State.climb
  split
  · exact retire s i _
  · split
    · exact beginAttempt s i _ _
    · have hspent : s.SameOrigins (s.modSlot i Slot.spendFunction) :=
        modSlot s ((Slot.setAttempts_origin _ _).trans (Slot.notePending_origin _))
      dsimp only
      split
      · exact hspent.trans (retire _ i _)
      · exact hspent.trans (beginAttempt _ i _ _)
  · exact beginAttempt s i _ _

theorem startRecovery (s : State) (i : SlotId) : s.SameOrigins (s.startRecovery i) :=
  (modSlot s (Slot.takeSample_origin _)).trans (climb _ i _)

theorem endDraining (s : State) (i : SlotId) : s.SameOrigins (s.endDraining i) := by
  simp only [State.endDraining]
  split
  · exact (modSlot s Slot.origin_of_current).trans (failAdmission _ i)
  · have hfenced := (modSlot (i := i) s (f := fun p => { p.fenceAll with seq := { p.fenceAll.seq with drainTimer := none } })
      Slot.origin_of_current).trans (modSlot (i := i) _ (f := fun p => p.setState .fenced) Slot.origin_of_current)
    split
    · exact hfenced.trans (startRecovery _ i)
    · exact hfenced.trans (modSlot _ Slot.origin_of_current)

end State.SameOrigins

/-! ### Trips (R77, R78) -/

/-- A trip counts on the slot in any order with its failed attempt. -/
theorem Slot.attemptFailed_countTrip (p : Slot) : p.attemptFailed.countTrip = p.countTrip.attemptFailed := by
  unfold Slot.attemptFailed
  rw [Slot.countTrip_seq]
  cases p.seq.level <;> rfl

@[simp] theorem Slot.attemptFailed_traffic (p : Slot) : p.attemptFailed.traffic = p.traffic := by
  unfold Slot.attemptFailed
  cases p.seq.level <;> rfl

@[simp] theorem Slot.attemptFailed_plan (p : Slot) : p.attemptFailed.seq.plan = p.seq.plan := by
  unfold Slot.attemptFailed
  cases p.seq.level <;> rfl

theorem Slot.countTrip_eq (p : Slot) :
    p.countTrip = { p with counters := { p.counters with trips := min 4294967295 (p.counters.trips + 1) } } := rfl

/-- The record an incident opens with (R156). -/
def State.newRecord (s : State) (i : SlotId) (kind : IncidentKind) (first : FirstCause) (further : CauseSet)
    (tripState : TripState) (view : TripView) : Incident :=
  { sequence := s.sequence + 1, kind := kind, slot := i, firstCause := first, further := further, tripState := tripState,
    openTime := s.time.now, view := view, highest := none, attempts := PerLevel.all 0, synthetic := 0, dropped := 0,
    stale := 0, outcome := .pending, closeTime := none }

/-- An incident opens on a slot (R155). -/
theorem State.openIncident_eq (s : State) (i : SlotId) (p : Slot) (kind : IncidentKind) (first : FirstCause)
    (further : CauseSet) (tripState : TripState) (view : TripView) :
    (s.withSlotAt i p).openIncident i kind first further tripState view =
      { s.bitRaised i with sequence := s.sequence + 1 }.withSlotAt i
        { p with previous := p.current, current := s.newRecord i kind first further tripState view } := by
  simp only [State.openIncident, State.raiseSlot_eq, State.modSlot_withSlotAt]
  rw [show State.slot { s.withSlotAt i p with sequence := (s.withSlotAt i p).sequence + 1 } i = p from s.withSlotAt_slot i p,
    State.bitRaised_withSlotAt]
  exact State.withSlotAt_withSlotAt { s.bitRaised i with sequence := s.sequence + 1 } i p _

/-- A serving slot, after its cause's own effect, trips as the view `tripped` says. -/
theorem State.trip_eq (hs : p.serving = true) (c : TripCause) (alsoStray : Bool) (view : TripView) :
    (s.withSlotAt i p).trip i c alsoStray view = s.tripped i p c (furtherOf alsoStray) view := by
  rcases Slot.serving_iff.1 hs with hstate | hstate
  · simp only [State.trip, State.withSlotAt_slot, hstate, State.openIncident_eq, State.modSlot_withSlotAt,
      State.withSlotAt_withSlotAt, State.enterDraining_eq, State.tripped, if_true]
    rfl
  · have hne : p.seq.state ≠ .online := by simp [hstate]
    have hnote : ∀ r : Slot, (r = p.notePending fun r => { r with
        further := r.further.add c ||| furtherOf alsoStray, tripState := .probation, view := view }) →
        r.countTrip = { p with
          counters := { p.counters with trips := min 4294967295 (p.counters.trips + 1) }
          current := if p.current.outcome = .pending then
              { p.current with
                further := p.current.further ||| c.mask ||| furtherOf alsoStray, tripState := .probation, view := view }
            else p.current } := by
      rintro r rfl
      rw [Slot.countTrip_eq]
      unfold Slot.notePending
      split <;> rfl
    cases hk : p.current.kind with
    | fault =>
      simp only [State.trip, State.withSlotAt_slot, hstate, State.modSlot_withSlotAt, State.enterDraining_eq,
        State.tripped, Slot.continueIncident, hk, Slot.countAttempt_eq, Slot.attemptFailed_countTrip, hnote _ rfl,
        reduceCtorEq, if_false, State.withSlotAt_withSlotAt, Slot.liveCount, Slot.attemptFailed_traffic,
        Slot.attemptFailed_plan]
    | admission =>
      simp only [State.trip, State.withSlotAt_slot, hstate, State.modSlot_withSlotAt, State.enterDraining_eq,
        State.tripped, Slot.continueIncident, hk, hnote _ rfl, reduceCtorEq, if_false, State.withSlotAt_withSlotAt]
      rfl

/-- The effect that a cause has on the gates is part of the trip: no STALL trip is due after it (R81). -/
theorem State.tripped_stallDue (s : State) (i : SlotId) (p : Slot) (due : Bool) (c : TripCause) (further : CauseSet)
    (view : TripView) :
    s.tripped i { p with detect := { p.detect with stallDue := due } } c further view = s.tripped i p c further view := by
  simp only [State.tripped, Slot.attemptFailed]
  cases p.current.kind with
  | fault => cases p.seq.level <;> rfl
  | admission => rfl

/-- The number of the slot's record after a trip. -/
theorem State.tripped_sequence (s : State) (i : SlotId) (p : Slot) (c : TripCause) (further : CauseSet) (view : TripView) :
    ((s.tripped i p c further view).slot i).current.sequence =
      if p.seq.state = .online then s.sequence + 1 else p.current.sequence := by
  have hend : ∀ (c : Prop) [Decidable c] (t : State),
      ((if c then t.endDraining i else t).slot i).current.sequence = (t.slot i).current.sequence := fun c _ t => by
    split
    · exact congrArg Prod.fst ((State.SameOrigins.endDraining t i).origin i)
    · rfl
  have hdrain : ∀ q : Slot, q.drainEntered.current.sequence = q.current.sequence := fun q => by
    simp only [Slot.drainEntered, Slot.gatesClosed]
    split <;> split <;> rfl
  unfold State.tripped
  rw [hend]
  by_cases hstate : p.seq.state = .online
  · simp only [if_pos hstate, State.withSlotAt_slot, hdrain]
    rfl
  · have hcurrent : ∀ q : Slot, q.current.sequence = p.current.sequence →
        q.attemptFailed.drainEntered.current.sequence = p.current.sequence := fun q hq => by
      rw [hdrain, ← Slot.countAttempt_eq]
      exact (congrArg Prod.fst q.countAttempt_origin).trans hq
    simp only [if_neg hstate, State.withSlotAt_slot]
    cases p.current.kind with
    | fault =>
      refine hcurrent _ ?_
      dsimp only
      split <;> rfl
    | admission =>
      rw [hdrain]
      dsimp only
      split <;> rfl

/-- A trip with the view of the slot as it stands. -/
theorem State.tripNow_eq (hs : p.serving = true) (c : TripCause) :
    (s.withSlotAt i p).tripNow i c = s.tripped i p c 0 (p.tripView s.time.now) := by
  rw [State.tripNow, State.withSlotAt_slot]
  exact State.trip_eq hs c false _

theorem State.withSlotAt_self (s : State) (i : SlotId) : s.withSlotAt i (s.slot i) = s := by
  rw [State.withSlotAt, State.slot, PerSlot.set_get]

/-- The oldest LIVE entry, as the record shows it (R45). -/
theorem oldestSnapshot_split {ort older younger : List Entry} {e : Entry} (hort : ort = older ++ e :: younger)
    (hold : ∀ x ∈ older, x.state ≠ .live) (hl : e.state = .live) (now : Ticks) : oldestSnapshot now ort = some
      { target := e.request.target
        requester := e.requester
        tag := e.tag
        age := min Config.latencyLimit (ticksSince now e.issueTime) } := by
  have hfind : ort.find? Entry.isLive = some e := by
    rw [hort]
    exact find?_split _ _ _ _ (fun x hx => by simpa [Entry.isLive] using hold x hx) (by simp [Entry.isLive, hl])
  rw [oldestSnapshot, hfind, Option.map_some]

theorem oldestSnapshot_none {ort : List Entry} (h : ∀ e ∈ ort, e.state ≠ .live) (now : Ticks) :
    oldestSnapshot now ort = none := by
  have hfind : ort.find? Entry.isLive = none := List.find?_eq_none.2 fun e he => by simpa [Entry.isLive] using h e he
  rw [oldestSnapshot, hfind, Option.map_none]

/-- A sequence number as a response carries it. -/
theorem place_sequence (n : BitVec 16) : place 0 16 n.toNat = BitVec.ofNat 32 n.toNat := by
  rw [place, Nat.mod_eq_of_lt n.isLt, Nat.pow_zero, Nat.mul_one]

/-- Settles O36: each cause, the refusals, and the view of the record. -/
theorem servingSlotTrips : Obligations.ServingSlotTrips := by
  refine ⟨fun s i hno => ?_, fun s i r t hready hnames hno => ?_, fun s i hs => ?_⟩
  · refine congrArg _ (if_neg ?_)
    obtain h | h := hno <;> simp [h]
  · show Host.Outcome.next (s.runGo 0x19 fun u => u.isolate.complete) = _
    rw [hready.runGo, State.isolate, hnames.withSlot, State.afterGo_slot, hno, if_neg Bool.false_ne_true,
      State.refuse_complete]
  · have hstate := Slot.serving_iff.1 hs
    refine ⟨fun hdue => ?_, fun hup => ?_, fun hon => ?_, fun older younger e hort hold hl hreached => ?_,
      fun r t hready hnames => ?_, rfl, fun hnone => oldestSnapshot_none hnone _,
      fun older younger e hort hold hl => ?_, rfl, rfl⟩
    · refine congrArg _ ((if_pos (by rw [hs, hdue]; rfl)).trans ?_)
      rw [State.modSlot_withSlotAt]
      exact (State.tripNow_eq (p := { s.slot i with detect := { (s.slot i).detect with stallDue := false } }) hs _).trans
        (s.tripped_stallDue i _ false _ _ _)
    · have hexec : exec (.linkLoss i) s = .next ((s.withSlotAt i ((s.slot i).setLink false)).tripNow i .linkDown) := by
        refine congrArg _ ((if_pos hup).trans ?_)
        obtain h | h := hstate <;> simp only [h, State.modSlot_withSlotAt]
      rw [hexec, State.tripNow_eq (p := (s.slot i).setLink false) hs]
      rfl
    · have hexec : exec (.powerLoss i) s = .next ((s.withSlotAt i ((s.slot i).setPwrgd false)).tripNow i .powerLoss) := by
        refine congrArg _ ((if_pos hon).trans ?_)
        obtain h | h := hstate <;> simp only [h, State.modSlot_withSlotAt]
      rw [hexec, State.tripNow_eq (p := (s.slot i).setPwrgd false) hs]
      rfl
    · have hexp : (s.slot i).expiring s.time.now e.number = true :=
        Slot.expiring_iff.2 ⟨e, by rw [hort]; simp, rfl, hl, hreached⟩
      show execExpiry i e.number s = _
      simp only [execExpiry, hexp, if_true, hs, State.modSlot_withSlotAt, fence_expiring hort hold hl]
      rw [State.trip_eq (p := { s.slot i with traffic := { (s.slot i).traffic with
        ort := older ++ { e with state := .fenced } :: younger } }) hs]
      rfl
    · show Host.Outcome.next (s.runGo 0x19 fun u => u.isolate.complete) = _
      have htrip : (s.afterGo r t).tripNow i .commanded =
          (s.afterGo r t).tripped i (s.slot i) .commanded 0 ((s.slot i).tripView s.time.now) := by
        conv_lhs => rw [← (s.afterGo r t).withSlotAt_self i]
        exact State.tripNow_eq hs _
      rw [hready.runGo, State.isolate, hnames.withSlot, State.afterGo_slot, hs, if_pos rfl, State.done_complete, htrip,
        State.tripped_sequence, place_sequence]
      rfl
    · refine (oldestSnapshot_split hort hold hl _).trans ?_
      cases e.request <;> rfl

/-! ### Losses of a slot that is not serving (R66, R67) -/

theorem Slot.addFurther_eq (p : Slot) (c : TripCause) : p.addFurther c =
    { p with current :=
        if p.current.outcome = .pending then { p.current with further := p.current.further ||| c.mask } else p.current } := by
  unfold Slot.addFurther Slot.notePending
  split <;> rfl

/-- Settles O37: the losses by slot state and phase. -/
theorem lossesOutsideService : Obligations.LossesOutsideService := by
  intro s i
  refine ⟨fun hdown => ?_, fun hoff => ?_, fun hup => ⟨fun hs => ?_, fun hs hp => ?_, fun hs h1 h2 h3 => ?_, fun hs => ?_⟩,
    fun hon => ⟨fun hs => ?_, fun hs hp => ?_, fun hs h1 h2 h3 => ?_, fun hs => ?_⟩⟩
  · exact congrArg _ (if_neg (by simp [hdown]))
  · exact congrArg _ (if_neg (by simp [hoff]))
  · refine congrArg _ ((if_pos hup).trans ?_)
    obtain h | h := hs <;> simp only [h, State.modSlot_withSlotAt, State.withSlotAt_slot, State.withSlotAt_withSlotAt,
      Slot.addFurther_eq] <;> rfl
  · refine congrArg _ ((if_pos hup).trans ?_)
    have hfails : linkLossFails (s.slot i).seq.phase = true := by obtain h | h | h := hp <;> rw [h] <;> rfl
    simp only [hs, hfails, if_true]
    rfl
  · refine congrArg _ ((if_pos hup).trans ?_)
    have hfails : linkLossFails (s.slot i).seq.phase = false := by
      unfold linkLossFails
      split <;> simp_all
    simp only [hs, hfails, Bool.false_eq_true, if_false]
    rfl
  · refine congrArg _ ((if_pos hup).trans ?_)
    obtain h | h | h := hs <;> simp only [h] <;> rfl
  · refine congrArg _ ((if_pos hon).trans ?_)
    obtain h | h := hs <;> simp only [h, State.modSlot_withSlotAt, State.withSlotAt_slot, State.withSlotAt_withSlotAt,
      Slot.addFurther_eq] <;> rfl
  · refine congrArg _ ((if_pos hon).trans ?_)
    have hfails : (s.slot i).powerLossFails = true := by
      obtain h | h | ⟨h, hseen⟩ := hp
      · simp only [Slot.powerLossFails, h]
      · simp only [Slot.powerLossFails, h]
      · simp only [Slot.powerLossFails, h, hseen]
    simp only [hs, hfails, if_true]
    rfl
  · refine congrArg _ ((if_pos hon).trans ?_)
    have hfails : (s.slot i).powerLossFails = false := by
      unfold Slot.powerLossFails
      split <;> simp_all
    simp only [hs, hfails, Bool.false_eq_true, if_false]
    rfl
  · refine congrArg _ ((if_pos hon).trans ?_)
    obtain h | h | h := hs <;> simp only [h] <;> rfl

/-! ### Health visits (R68 to R71) -/

theorem State.visit_eq_of_serving (hs : (s.slot i).serving = true) : s.visit i =
    if (s.slot i).detect.monitor.errThresh < (s.slot i).visitServing.detect.errAcc then
      s.tripped i (s.slot i).visitServing .linkErrors
        (furtherOf (decide ((s.slot i).detect.monitor.strayThresh < (s.slot i).visitServing.detect.strayAcc)))
        ((s.slot i).tripView s.time.now)
    else if (s.slot i).detect.monitor.strayThresh < (s.slot i).visitServing.detect.strayAcc then
      s.tripped i (s.slot i).visitServing .strayAnswers 0 ((s.slot i).tripView s.time.now)
    else s.withSlotAt i (s.slot i).visitServing := by
  have hs' : (s.slot i).visitServing.serving = true := hs
  simp only [State.visit, hs, if_true, State.modSlot_withSlotAt, State.withSlotAt_slot, State.trip_eq hs',
    State.tripNow_eq hs']
  rfl

/-- The state in which a health visit takes place: the next slot has advanced and the timer is loaded (R69). -/
def State.visitBegun (s : State) : State :=
  { s with health := { s.health with
      visitTimer := s.health.visit
      nextSlot :=
        match s.health.nextSlot with
        | .s0 => .s1
        | .s1 => .s2
        | .s2 => .s3
        | .s3 => .s0 } }

theorem exec_healthVisit (h : s.health.visitTimer = 0) :
    exec .healthVisit s = .next (s.visitBegun.visit s.health.nextSlot) := by
  refine congrArg _ ((if_pos h).trans ?_)
  rw [State.visitBegun]
  cases hslot : s.health.nextSlot <;> rw [SlotId.succ]

/-- Settles O38: the visit of the next slot, serving or not, and the count of corrected link errors. -/
theorem healthVisited : Obligations.HealthVisited := by
  refine ⟨fun s h => congrArg _ (if_neg h), fun s h => ?_, fun s i => ?_⟩
  · refine ⟨fun hs => ?_, fun hs herr hstray => ?_, fun hs herr => ?_, fun hs herr hstray => ?_⟩
    · rw [exec_healthVisit h, State.visit]
      exact congrArg _ (if_neg (ne_of_eq_of_ne (show (s.visitBegun.slot _).serving = false from hs) Bool.false_ne_true))
    · rw [exec_healthVisit h, State.visit_eq_of_serving (s := s.visitBegun) hs]
      exact congrArg _ ((if_neg (Nat.not_lt.2 herr)).trans (if_neg (Nat.not_lt.2 hstray)))
    · rw [exec_healthVisit h, State.visit_eq_of_serving (s := s.visitBegun) hs]
      refine congrArg _ ((if_pos herr).trans (congrArg (State.tripped _ _ _ _ · _) ?_))
      simp only [furtherOf, decide_eq_true_eq]
      rfl
    · rw [exec_healthVisit h, State.visit_eq_of_serving (s := s.visitBegun) hs]
      exact congrArg _ ((if_neg (Nat.not_lt.2 herr)).trans (if_pos hstray))
  · show execCorrectedLinkError i s = _
    rw [execCorrectedLinkError]
    rfl

end Sys2Proof.Machine

/-! The Restore Executor's accesses and their answers (chapter 8). -/

namespace Sys2Proof.Machine

variable {s : State} {i : SlotId}

/-- What the executor does about its link, tombstones cleared with the reset write (R105, R146). -/
theorem exec_executorAccessSend {a : Access} (hflight : (s.slot i).exec.inFlight = some a) (hsent : a.onLink = false)
    (hup : (s.slot i).lines.linkUp = true) : exec (.executorAccessSend i) s = .next (s.withSlotAt i
      { s.slot i with
        exec := { (s.slot i).exec with inFlight := some { a with onLink := true } }
        traffic := { (s.slot i).traffic with
          ort := if (s.slot i).seq.phase = some .functionReset then (s.slot i).clearedOrt else (s.slot i).traffic.ort
          linkSent := (s.slot i).traffic.linkSent ++ [
            match a.request with
            | .write off be data => .cfgWrite 0xFFFF a.tag off be data
            | .read off => .cfgRead 0xFFFF a.tag off] } }) := by
  show execExecutorAccessSend i s = _
  simp only [execExecutorAccessSend, hflight, hsent, hup, Bool.not_false, Bool.and_self, if_true,
    State.modSlot_withSlotAt]
  by_cases hp : (s.slot i).seq.phase = some .functionReset
  · simp only [hp, if_true, Slot.tombstoneClear_eq]
    rfl
  · simp only [hp, if_false]
    rfl

theorem Slot.phaseAccess_step {p : Slot} {k : Nat} {st : Step} (hp : p.seq.phase = some .restoring)
    (hk : p.exec.step = some k) (hst : p.script.active[k]? = some st) : p.phaseAccess = st.access := by
  simp only [Slot.phaseAccess, hp, Slot.currentStep, hk, Option.bind_some, hst]

/-- A step's access is issued again after a RETRY (R149). -/
theorem exec_stepReissue {k : Nat} {st : Step} {a : AccessRequest} (hs : (s.slot i).seq.state = .recovering)
    (hh : (s.slot i).seq.held = false) (hp : (s.slot i).seq.phase = some .restoring)
    (hk : (s.slot i).exec.step = some k) (hst : (s.slot i).script.active[k]? = some st)
    (ht : (s.slot i).exec.reissueTimer = some 0) (ha : st.access = some a) :
    exec (.stepReissue i) s = .next (s.withSlotAt i
      (({ s.slot i with exec := { (s.slot i).exec with reissueTimer := none } } : Slot).issuing a)) := by
  refine congrArg _ ((if_pos (Slot.stepRanOut_iff.2 ⟨hs, hp, Slot.ranOut_iff.2 ⟨hh, ht⟩⟩)).trans ?_)
  rw [State.modSlot_withSlotAt]
  exact congrArg _ (Slot.issue_eq ((Slot.phaseAccess_step
    (p := { s.slot i with exec := { (s.slot i).exec with reissueTimer := none } }) hp hk hst).trans ha))

/-- Settles O44: an access goes to the link once, and is issued again under the next tag. -/
theorem executorAccesses : Obligations.ExecutorAccesses := by
  intro s i
  refine ⟨fun a hflight hsent hup => exec_executorAccessSend hflight hsent hup, fun hno => ?_, fun hs hh =>
    ⟨fun w hp ht hw => ?_, fun k st hp hk hst => ⟨fun ht => ⟨fun off be v hwrite => ?_, fun off m x hverify => ?_⟩,
      fun ht off m x l hpoll => ?_⟩⟩⟩
  · show execExecutorAccessSend i s = _
    rw [execExecutorAccessSend]
    cases hflight : (s.slot i).exec.inFlight with
    | none => rfl
    | some a =>
      refine congrArg _ (if_neg ?_)
      obtain h | h | ⟨b, hb, hsent⟩ := hno
      · rw [hflight] at h
        cases h
      · simp [h]
      · rw [hflight] at hb
        cases hb
        simp [hsent]
  · refine congrArg _ ((if_pos (by simp [hs, hp, Slot.ranOut_iff, hh, ht])).trans ?_)
    rw [State.modSlot_withSlotAt]
    refine congrArg _ (Slot.issue_eq ?_)
    simp only [Slot.phaseAccess, hp, hw, Option.map_some]
  · exact exec_stepReissue hs hh hp hk hst ht (by rw [hwrite, Step.access])
  · exact exec_stepReissue hs hh hp hk hst ht (by rw [hverify, Step.access])
  · refine congrArg _ ((if_pos (Slot.stepRanOut_iff.2 ⟨hs, hp, Slot.ranOut_iff.2 ⟨hh, ht⟩⟩)).trans ?_)
    rw [State.modSlot_withSlotAt]
    exact congrArg _ (Slot.issue_eq ((Slot.phaseAccess_step
      (p := { s.slot i with exec := { (s.slot i).exec with intervalTimer := none } }) hp hk hst).trans
        (by rw [hpoll, Step.access])))

/-! ### Answers to the executor (R146 to R150) -/

/-- An answer of the executor's own requester goes to the executor, whatever the stage holds (R18). -/
theorem exec_receiveQueueTake_executor {t : Tag} {st : Status} {rem cnt : Nat} {data : List Byte} {rest : List Transaction}
    (room : Bool) (hqueue : (s.slot i).traffic.recvQueue = .answer 0xFFFF t st rem cnt data :: rest) :
    exec (.receiveQueueTake i room) s =
      .next ((s.withSlotAt i ((s.slot i).answerPopped rest)).executorAnswer i t st data) := by
  show execReceiveQueueTake i room s = _
  simp only [execReceiveQueueTake, hqueue, List.head?_cons, ownRequester, if_true, State.modSlot_withSlotAt,
    Slot.popReceive_of_cons hqueue]
  rfl

/-- The executor's access is no longer in flight: its answer has come. -/
def Slot.answered (p : Slot) : Slot := { p with exec := { p.exec with inFlight := none } }

section

variable {p : Slot} {t : Tag} {st : Status} {data : List Byte}

/-- An answer without the tag of the access in flight has no effect. -/
theorem State.executorAnswer_stray (h : ∀ a, p.exec.inFlight = some a → a.tag ≠ t) :
    (s.withSlotAt i p).executorAnswer i t st data = s.withSlotAt i p := by
  simp only [State.executorAnswer, State.withSlotAt_slot]
  cases hflight : p.exec.inFlight with
  | none => rfl
  | some a => exact if_neg (h a hflight)

/-- The answer of the access in flight, by the phase (R105, R146). -/
theorem State.executorAnswer_match {a : Access} (hflight : p.exec.inFlight = some a) (ht : a.tag = t) :
    (p.seq.phase = some .functionReset →
      (s.withSlotAt i p).executorAnswer i t st data = (s.withSlotAt i p.answered).resetWriteAnswer i st) ∧
    (p.seq.phase = some .restoring →
      (s.withSlotAt i p).executorAnswer i t st data = (s.withSlotAt i p.answered).stepAnswer i st data) ∧
    (p.seq.phase ≠ some .functionReset → p.seq.phase ≠ some .restoring →
      (s.withSlotAt i p).executorAnswer i t st data = s.withSlotAt i p.answered) := by
  simp only [State.executorAnswer, State.withSlotAt_slot, hflight, ht, if_true, State.modSlot_withSlotAt,
    State.withSlotAt_withSlotAt]
  refine ⟨fun hp => ?_, fun hp => ?_, fun hf hr => ?_⟩
  · simp only [hp]
    rfl
  · simp only [hp]
    rfl
  · split
    · next hp => exact absurd hp hf
    · next hp => exact absurd hp hr
    · rfl

end

/-- The dword of an answer, the first four bytes of it or a free value (log 8, log 40). -/
theorem State.readDword_spec (u : State) (data : List Byte) :
    (4 ≤ data.length → (u.readDword data).2 = u ∧ ∀ b, b < 4 → data[b]? = some ((u.readDword data).1.extractLsb' (8 * b) 8)) ∧
    (data.length < 4 → (u.readDword data).2 = { u with freeIndex := u.freeIndex + 1 }) := by
  refine ⟨fun h => ?_, fun h => ?_⟩
  · obtain ⟨d, hd, hbytes⟩ := dwordOfBytes_some data h
    simp only [State.readDword, hd]
    exact ⟨trivial, hbytes⟩
  · simp only [State.readDword, dwordOfBytes_none data h]

theorem Slot.currentStep_eq {p : Slot} {k : Nat} {st : Step} (hk : p.exec.step = some k)
    (hst : p.script.active[k]? = some st) : p.currentStep = some st := by
  rw [Slot.currentStep, hk]
  exact hst

theorem agrees_iff {m x d : Dword} : agrees m x d = true ↔ d &&& m = x &&& m := by
  rw [agrees, beq_iff_eq]

/-- Settles O45: the answers by phase, status and kind of step. -/
theorem executorAnswers : Obligations.ExecutorAnswers := by
  intro s i t st rem cnt data rest room hqueue
  have htake := exec_receiveQueueTake_executor (s := s) room hqueue
  refine ⟨fun hstray => ?_, fun a hflight ht => ?_⟩
  · exact htake.trans (congrArg _ (State.executorAnswer_stray hstray))
  obtain ⟨hreset, hstep, hother⟩ := State.executorAnswer_match (s := s) (i := i) (st := st) (data := data)
    (p := (s.slot i).answerPopped rest) hflight ht
  refine ⟨fun hf hr => htake.trans (congrArg _ (hother hf hr)), fun hf => ?_, fun k stp hp hk hst => ?_⟩
  · have hanswer := htake.trans (congrArg _ (hreset hf))
    refine ⟨fun hok => hanswer.trans ?_, fun hretry => hanswer.trans ?_, fun hfail => hanswer.trans ?_⟩
    · simp only [hok, State.resetWriteAnswer, State.enterSettle_eq, State.withSlotAt_slot, State.settling,
        State.withSlotAt_withSlotAt]
      rfl
    · simp only [hretry, State.resetWriteAnswer, State.modSlot_withSlotAt, State.withSlotAt_slot,
        State.withSlotAt_withSlotAt]
      rfl
    · obtain h | h := hfail <;> rw [h] <;> rfl
  · have hcurrent : ((s.slot i).answerPopped rest).answered.currentStep = some stp :=
      Slot.currentStep_eq hk hst
    have hanswer := htake.trans (congrArg _ (hstep hp))
    simp only [State.stepAnswer, State.withSlotAt_slot, hcurrent] at hanswer
    refine ⟨fun hfail => hanswer.trans ?_, fun off be v hkind => ⟨fun hok => hanswer.trans ?_, fun hretry => hanswer.trans ?_⟩,
      fun off m x hkind hretry => hanswer.trans ?_, fun off m x l hkind hretry => hanswer.trans ?_, fun hok => ?_⟩
    · obtain h | h := hfail <;> rw [h] <;> rfl
    · rw [hok, hkind]
      rfl
    · simp only [hretry, hkind, State.modSlot_withSlotAt, State.withSlotAt_slot, State.withSlotAt_withSlotAt]
      rfl
    · simp only [hretry, hkind, State.modSlot_withSlotAt, State.withSlotAt_slot, State.withSlotAt_withSlotAt]
      rfl
    · simp only [hretry, hkind, State.modSlot_withSlotAt, State.withSlotAt_slot, State.withSlotAt_withSlotAt]
      rfl
    · obtain ⟨hfull, hshort⟩ := (s.withSlotAt i ((s.slot i).answerPopped rest).answered).readDword_spec data
      rw [hok] at hanswer
      refine ⟨_, _, hfull, hshort, fun off m x hkind => hanswer.trans ?_, fun off m x l hkind => hanswer.trans ?_⟩
      · simp only [hkind]
        exact congrArg _ (if_congr agrees_iff rfl rfl)
      · simp only [hkind, State.modSlot_withSlotAt, State.readDword_slot, State.withSlotAt_slot]
        exact congrArg _ (if_congr agrees_iff rfl rfl)

end Sys2Proof.Machine

/-! Removal and insertion of a card (sections 6.8 and 7.5). -/

namespace Sys2Proof.Machine

variable {s : State} {i : SlotId}

/-! ### Incidents and rails of one slot -/

/-- The bit of a slot is set once for all. -/
theorem State.bitRaised_bitRaised (s : State) (i : SlotId) : (s.bitRaised i).bitRaised i = s.bitRaised i := by
  have hclear : (s.bitRaised i).notices.summary.isClear = false := Summary.isClear_set s.notices.summary i
  simp only [State.bitRaised] at hclear ⊢
  simp only [hclear, Bool.false_and, Bool.or_false, Bool.false_eq_true, if_false, PerSlot.set_set]

/-- Where the rail is in a state the Rail Arbiter can be in, a slot that gives it up keeps its own state (R131, R132). -/
theorem State.slot_releaseRail_self (h : s.RailOk i.rail) : (s.releaseRail i).slot i = s.slot i := by
  simp only [State.releaseRail]
  split
  · next hhold =>
    split
    · next w hwait =>
      have hne : i ≠ w := fun hc => (h.2 w hwait).2.2 (hc ▸ hhold)
      rw [State.slot_modSlot_ne _ _ _ _ hne, State.slot_setRail]
    · exact State.slot_setRail ..
  · split
    · exact State.slot_setRail ..
    · rfl

/-! ### Removal (R42, R135, R136) -/

/-- What becomes of an entry at a removal that does not free it (R42). -/
theorem Entry.removed_eq {e : Entry} (h : e.state ≠ .tombstone) : e.fence.forgetKey =
    { e with keepKey := false, state := if e.state = .live then .fenced else e.state } := by
  cases hs : e.state <;> simp_all [Entry.fence, Entry.isLive, Entry.forgetKey]

theorem Entry.fence_isTombstone (e : Entry) : e.fence.isTombstone = e.isTombstone := by
  cases hs : e.state <;> simp [Entry.fence, Entry.isLive, Entry.isTombstone, hs]

/-- The ORT at a removal (R42). -/
theorem Slot.ortRemoval_ort (p : Slot) : p.ortRemoval.traffic.ort =
    (p.traffic.ort.filter fun e => e.state != .tombstone).map fun e =>
      { e with keepKey := false, state := if e.state = .live then .fenced else e.state } := by
  simp only [Slot.ortRemoval, Slot.tombstoneClear, Slot.fenceAll, List.filter_map, List.map_map]
  have hfilter : (p.traffic.ort.filter ((fun e => !e.isTombstone) ∘ Entry.fence)) =
      p.traffic.ort.filter fun e => e.state != .tombstone :=
    List.filter_congr fun e _ => by
      rw [Function.comp_apply, Entry.fence_isTombstone]
      rfl
  rw [hfilter]
  refine List.map_congr_left fun e he => ?_
  exact Entry.removed_eq (by simpa using (List.mem_filter.1 he).2)

/-- A removed slot (R135). -/
def Slot.removed (p : Slot) : Slot :=
  let g := (if p.serving then p.gatesClosed else p).stopped
  { g with
    seq := { g.seq with state := .empty, level := none, held := false }
    traffic := { g.traffic with ort := (p.traffic.ort.filter fun e => e.state != .tombstone).map fun e =>
      { e with keepKey := false, state := if e.state = .live then .fenced else e.state } }
    lines := { g.lines with slotReset := true, powerEnable := false, present := false } }

theorem Slot.remove_eq (p : Slot) : p.remove = p.removed := by
  have hort : (if p.serving then p.gatesClosed else p).traffic.ort = p.traffic.ort := by
    split <;> rfl
  unfold Slot.remove Slot.removed
  dsimp only
  rw [Slot.closeGates_eq, Slot.stopSequence_eq, ← hort, ← Slot.ortRemoval_ort]
  rfl

/-- An incident that opens and closes in one event (R136). -/
theorem State.removalIncident_online {before : Slot} (hs : before.seq.state = .online) :
    s.removalIncident i before = { s.bitRaised i with sequence := s.sequence + 1 }.withSlotAt i
      { s.slot i with
        seq := { (s.slot i).seq with attempts := PerLevel.all 0 }
        previous := (s.slot i).current
        current := { s.newRecord i .fault .removal 0 .online (before.tripView s.time.now) with
          outcome := .removed, closeTime := some s.time.now } } := by
  have hself := s.withSlotAt_self i
  simp only [State.removalIncident, hs]
  conv_lhs => rw [← hself]
  rw [State.openIncident_eq, State.closeIncident_eq, State.closedAt]
  simp only [State.withSlotAt_slot, State.newRecord, if_true, State.bitRaised_withSlotAt, State.withSlotAt_withSlotAt]
  have hraised : ({ s.bitRaised i with sequence := s.sequence + 1 } : State).bitRaised i =
      { s.bitRaised i with sequence := s.sequence + 1 } :=
    congrArg (fun u : State => { u with sequence := s.sequence + 1 }) (s.bitRaised_bitRaised i)
  rw [hraised]
  rfl

/-- Settles O47: removal from ONLINE, removal from any other state, insertion. -/
theorem removalAndInsertion : Obligations.RemovalAndInsertion := by
  intro s i
  have hremoval : (s.slot i).lines.present = true → exec (.removal i) s =
      .next (((s.withSlotAt i (s.slot i).removed).releaseRail i).removalIncident i (s.slot i)) := fun hp => by
    refine congrArg _ ((if_pos hp).trans ?_)
    rw [State.modSlot_withSlotAt, Slot.remove_eq]
  refine ⟨fun hp => congrArg _ (if_neg (by simp [hp])), fun hp hs => ?_, fun hp hs hrail => ?_,
    fun hp => congrArg _ (if_pos hp), fun hp => ?_⟩
  · rw [hremoval hp, State.removalIncident]
    split
    · next h => exact absurd h hs
    · rw [State.closeIncident_eq]
      rfl
  · have hslot : ((s.withSlotAt i (s.slot i).removed).releaseRail i).slot i = (s.slot i).removed := by
      rw [State.slot_releaseRail_self (by simpa only [State.RailOk, State.rail_withSlotAt] using hrail),
        State.withSlotAt_slot]
    have htime : ((s.withSlotAt i (s.slot i).removed).releaseRail i).time = s.time := (State.releaseRail_quiet _ i).time
    have hseq : ((s.withSlotAt i (s.slot i).removed).releaseRail i).sequence = s.sequence :=
      (State.SameOrigins.releaseRail _ i).sequence
    rw [hremoval hp, State.removalIncident_online hs, hslot]
    simp only [State.newRecord, htime, hseq]
    rfl
  · refine congrArg _ ((if_neg (by simp [hp])).trans ?_)
    rw [State.modSlot_withSlotAt]
    refine congrArg _ ?_
    split <;> rfl

end Sys2Proof.Machine

/-! The edges of KILL (section 4.6). -/

namespace Sys2Proof.Machine

variable {s t x y : State} {i : SlotId} {p : Slot} {killed : SlotId → Bool}

/-! ### The summary (R162) -/

/-- Bits of the summary are set, and a notice queued where the summary was clear and notices are armed. -/
theorem State.raiseSummary_eq (s : State) (f : Summary → Summary) : s.raiseSummary f =
    { s with
      notices := { s.notices with
        summary := f s.notices.summary
        unsent := s.notices.unsent || (s.notices.summary.isClear && s.notices.armed) }
      presenting :=
        if (s.notices.summary.isClear && s.notices.armed) = true then
          some (s.presenting.getD (if s.waitingAnswer.isSome then .answer else .notice))
        else s.presenting } := by
  unfold State.raiseSummary State.queueNotice State.present
  cases s.notices.summary.isClear with
  | false => simp
  | true =>
    have harmed : ∀ m, ({ s.notices with summary := m } : Notices).armed = s.notices.armed := fun _ => rfl
    simp only [if_true, harmed, Bool.true_and]
    cases s.notices.armed with
    | false => simp
    | true => cases s.presenting <;> cases s.waitingAnswer <;> simp

theorem State.raiseSummary_killChange (s : State) {f : Summary → Summary}
    (h : (f s.notices.summary).killChange = true) : (s.raiseSummary f).notices.summary.killChange = true := by
  rw [State.raiseSummary_eq]
  exact h

/-! ### What the assertion does to one slot (R74) -/

/-- A slot as it stands when its drain has ended while KILL is asserted: no recovery begins (R84, R85). -/
def Slot.drainKilled (p : Slot) (now : Ticks) : Slot :=
  match p.current.kind with
  | .admission =>
    { ({ p with traffic := { p.traffic with ort := p.fencedOrt } } : Slot).stopped with
      seq := { ({ p with traffic := { p.traffic with ort := p.fencedOrt } } : Slot).stopped.seq with
        state := .offline, level := none, held := false }
      lines := { p.lines with slotReset := true, powerEnable := false } }.closedAs .failed now
  | .fault => { p.drainFenced with seq := { p.drainFenced.seq with held := false } }

/-- Nothing of a rail changes where the slot has no part in it. -/
theorem State.Unrailed.releaseRail (h : s.Unrailed i) : s.releaseRail i = s := by
  simp only [State.releaseRail, if_neg h.1, if_neg h.2]

theorem State.closedAt_eq (s : State) (i : SlotId) (o : IncidentOutcome) : s.closedAt i o =
    (if (s.slot i).current.outcome = .pending then s.bitRaised i else s).withSlotAt i ((s.slot i).closedAs o s.time.now) := by
  by_cases hp : (s.slot i).current.outcome = .pending
  · simp only [State.closedAt, Slot.closedAs, hp, if_true]
    rfl
  · simp only [State.closedAt, Slot.closedAs, hp, if_false]
    rfl

/-- `t` differs from `s` at most in one slot, the sequence counter, the notices and what is presented. -/
structure State.Touches (s t : State) (i : SlotId) : Prop where
  others : ∀ j, j ≠ i → t.slot j = s.slot j
  rails  : ∀ r, t.rail r = s.rail r
  change : s.notices.summary.killChange = true → t.notices.summary.killChange = true

namespace State.Touches

theorem refl (s : State) (i : SlotId) : s.Touches s i := ⟨fun _ _ => rfl, fun _ => rfl, id⟩

theorem trans (h : s.Touches t i) (k : t.Touches x i) : s.Touches x i :=
  ⟨fun j hj => (k.others j hj).trans (h.others j hj), fun r => (k.rails r).trans (h.rails r), fun hs => k.change (h.change hs)⟩

theorem withSlotAt (s : State) (i : SlotId) (p : Slot) : s.Touches (s.withSlotAt i p) i :=
  ⟨fun _ hj => s.withSlotAt_slot_ne p hj, fun r => s.rail_withSlotAt i p r, id⟩

theorem bitRaised (s : State) (i : SlotId) : s.Touches (s.bitRaised i) i :=
  ⟨fun _ _ => rfl, fun r => by cases r <;> rfl, id⟩

theorem closedAt (s : State) (i : SlotId) (o : IncidentOutcome) : s.Touches (s.closedAt i o) i := by
  rw [State.closedAt_eq]
  split
  · exact (bitRaised s i).trans (withSlotAt _ i _)
  · exact withSlotAt _ i _

end State.Touches

/-- The end of a drain while KILL is asserted. -/
theorem State.endDraining_killed (hk : s.kill = true) (hu : s.Unrailed i) :
    s.Touches (s.endDraining i) i ∧ (s.endDraining i).slot i = (s.slot i).drainKilled s.time.now ∧
      (s.endDraining i).sequence = s.sequence := by
  refine and_assoc.1 ⟨?_, (State.SameOrigins.endDraining s i).sequence⟩
  cases hkind : (s.slot i).current.kind with
  | admission =>
    rw [State.endDraining_of_admission hkind, State.admissionFailed, State.withSlotAt_withSlotAt, State.withSlotAt_slot,
      State.Unrailed.releaseRail (hu.congr fun r => State.rail_withSlotAt _ _ _ r)]
    refine ⟨(State.Touches.withSlotAt _ _ _).trans (State.Touches.closedAt _ i _), ?_⟩
    rw [State.closedAt_eq, State.withSlotAt_slot, State.withSlotAt_slot, Slot.drainKilled, hkind]
    rfl
  | fault =>
    have hauto : s.automatic i = false := by
      rw [← Bool.not_eq_true, State.automatic_iff]
      rintro ⟨c, -, -, -, hk'⟩
      rw [hk] at hk'
      cases hk'
    rw [State.endDraining_of_fault hkind, hauto, if_neg Bool.false_ne_true]
    refine ⟨State.Touches.withSlotAt _ i _, ?_⟩
    rw [State.withSlotAt_slot, Slot.drainKilled, hkind]

/-- A slot in DRAINING by a trip, before its drain can end (R77, R78, R82). -/
def State.tripSlot (s : State) (i : SlotId) (p : Slot) (c : TripCause) (view : TripView) : Slot :=
  let counted := { p.counters with trips := min 4294967295 (p.counters.trips + 1) }
  if p.seq.state = .online then
    ({ p with
      counters := counted, previous := p.current, current := s.faultRecord i (.trip c) 0 view } : Slot).drainEntered
  else
    let r : Slot :=
      { p with
        counters := counted
        current := if p.current.outcome = .pending then
            { p.current with further := p.current.further ||| c.mask ||| 0, tripState := .probation, view := view }
          else p.current }
    match p.current.kind with
    | .fault => r.attemptFailed.drainEntered
    | .admission => r.drainEntered

/-- A slot that has tripped while KILL is asserted. -/
def State.tripKilled (s : State) (i : SlotId) (p : Slot) (c : TripCause) (view : TripView) : Slot :=
  if p.liveCount = 0 ∨ p.seq.plan.drain = 0 then (s.tripSlot i p c view).drainKilled s.time.now else s.tripSlot i p c view

theorem State.tripped_eq (s : State) (i : SlotId) (p : Slot) (c : TripCause) (view : TripView) :
    s.tripped i p c 0 view =
      let t := (if p.seq.state = .online then { s.bitRaised i with sequence := s.sequence + 1 } else s).withSlotAt i
        (s.tripSlot i p c view)
      if p.liveCount = 0 ∨ p.seq.plan.drain = 0 then t.endDraining i else t := by
  by_cases hs : p.seq.state = .online
  · simp only [State.tripped, State.tripSlot, hs, if_true]
  · simp only [State.tripped, State.tripSlot, hs, if_false] <;> rfl

/-- A trip while KILL is asserted. -/
theorem State.tripped_killed (hk : s.kill = true) (hu : s.Unrailed i) (p : Slot) (c : TripCause) (view : TripView) :
    s.Touches (s.tripped i p c 0 view) i ∧ (s.tripped i p c 0 view).slot i = s.tripKilled i p c view ∧
      (s.tripped i p c 0 view).sequence = if p.seq.state = .online then s.sequence + 1 else s.sequence := by
  have hopened : s.Touches (if p.seq.state = .online then { s.bitRaised i with sequence := s.sequence + 1 } else s) i ∧
      (if p.seq.state = .online then { s.bitRaised i with sequence := s.sequence + 1 } else s).kill = s.kill ∧
      (if p.seq.state = .online then { s.bitRaised i with sequence := s.sequence + 1 } else s).time = s.time ∧
      (if p.seq.state = .online then { s.bitRaised i with sequence := s.sequence + 1 } else s).sequence =
        if p.seq.state = .online then s.sequence + 1 else s.sequence := by
    split
    · exact ⟨⟨fun _ _ => rfl, fun r => by cases r <;> rfl, id⟩, rfl, rfl, rfl⟩
    · exact ⟨.refl s i, rfl, rfl, rfl⟩
  obtain ⟨htouch, hkill, htime, hseq⟩ := hopened
  rw [State.tripped_eq, State.tripKilled]
  generalize (if p.seq.state = .online then { s.bitRaised i with sequence := s.sequence + 1 } else s) = u at *
  have hin := htouch.trans (State.Touches.withSlotAt u i (s.tripSlot i p c view))
  dsimp only
  split
  · obtain ⟨hend, hslot, hsame⟩ := State.endDraining_killed (s := u.withSlotAt i (s.tripSlot i p c view)) (i := i)
      (hkill.trans hk) (hu.congr hin.rails)
    refine ⟨hin.trans hend, ?_, hsame.trans hseq⟩
    rw [hslot, State.withSlotAt_slot]
    exact congrArg (fun tm : Timebase => Slot.drainKilled _ tm.now) htime
  · exact ⟨hin, State.withSlotAt_slot .., hseq⟩

/-! ### One slot after another -/

/-- What the assertion of KILL makes of a slot `p`, when `n` incidents have opened before its turn (R74, R118). -/
structure State.KillTaken (s : State) (i : SlotId) (n : Nat) (p q : Slot) : Prop where
  serving : p.serving = true → q = State.tripKilled { s with kill := true, sequence := s.sequence + BitVec.ofNat 16 n } i p
    .external (p.tripView s.time.now)
  out : p.seq.state = .offline ∨ p.seq.state = .retired ∨ p.seq.state = .empty → q = p
  fenced : p.seq.state = .fenced → q = { p with current := { p.current with further := p.current.further ||| 0x40 } }
  draining : p.seq.state = .draining → q =
    { p.stopped with
      seq := { p.stopped.seq with state := .fenced, level := none, held := false }
      traffic := { p.traffic with ort := p.fencedOrt }
      lines := { p.lines with slotReset := p.lines.slotReset || !p.lines.linkUp }
      current := { p.current with further := p.current.further ||| 0x40 } }
  recovering : p.seq.state = .recovering →
    q.seq.state = .fenced ∧ q.seq.phase = none ∧ q.seq.level = none ∧ q.seq.held = false ∧
    q.seq.phaseTimer = none ∧ q.exec.inFlight = none ∧ q.exec.step = none ∧ q.lines.slotReset = true ∧
    (q.lines.powerEnable = p.lines.powerEnable ∨ p.seq.phase = some .railWait) ∧
    q.seq.attempts = p.seq.attempts ∧ q.counters = p.counters ∧
    q.current = { p.current with further := p.current.further ||| 0x40 }

/-- The cause of KILL in the record of a PENDING incident. -/
theorem Slot.addFurther_external (hp : p.current.outcome = .pending) : p.addFurther .external =
    { p with current := { p.current with further := p.current.further ||| 0x40 } } := by
  rw [Slot.addFurther_eq, if_pos hp]
  rfl

/-- The number of the slots of a list that are ONLINE. -/
def State.onlineIn (s : State) (l : List SlotId) : Nat := l.countP fun j => (s.slot j).seq.state == .online

/-- An aborted sequence gives its rail up. -/
theorem State.abort_slot (h : s.RailOk i.rail) : (s.abort i).slot i = (s.slot i).abortSequence := by
  rw [State.abort, State.modSlot_withSlotAt,
    State.slot_releaseRail_self (by simpa only [State.RailOk, State.rail_withSlotAt] using h), State.withSlotAt_slot]

/-- A partner that waits for the rail is all that a release can touch. -/
theorem State.releaseRail_other {j : SlotId} (hg : s.GrantOk j) (hr : s.RailOk i.rail) :
    (s.releaseRail i).slot j = s.slot j ∨
      (s.slot j).seq.phase = some .railWait ∧ (s.releaseRail i).slot j = (s.slot j).inPowerOff := by
  simp only [State.releaseRail]
  split
  · split
    · next w hw =>
      by_cases hjw : j = w
      · subst hjw
        right
        obtain ⟨hwr, -, -⟩ := hr.2 j hw
        refine ⟨hg.2.2 (by rw [hwr]; exact hw), ?_⟩
        rw [State.slot_modSlot_same, State.slot_setRail, Slot.enterPowerOff_eq]
      · left
        rw [State.slot_modSlot_ne _ _ _ _ hjw, State.slot_setRail]
    · exact .inl (State.slot_setRail ..)
  · left
    split
    · exact State.slot_setRail ..
    · rfl

theorem State.releaseRail_killChange (s : State) (i : SlotId) : (s.releaseRail i).notices = s.notices := by
  simp only [State.releaseRail]
  split
  · split
    · rw [State.modSlot_notices, State.setRail_notices]
    · exact State.setRail_notices ..
  · split
    · exact State.setRail_notices ..
    · rfl

namespace State.KillTaken

variable {n : Nat} {q : Slot}

theorem of_serving (hs : p.serving = true) (h : q = State.tripKilled
    { s with kill := true, sequence := s.sequence + BitVec.ofNat 16 n } i p .external (p.tripView s.time.now)) :
    s.KillTaken i n p q := by
  constructor
  case serving => exact fun _ => h
  all_goals
    intro hstate
    obtain hs | hs := Slot.serving_iff.1 hs <;> simp [hs] at hstate

theorem of_state {st : SlotState} (hst : p.seq.state = st) (hs : st.serving = false)
    (out : st = .offline ∨ st = .retired ∨ st = .empty → q = p)
    (fenced : st = .fenced → q = { p with current := { p.current with further := p.current.further ||| 0x40 } })
    (draining : st = .draining → q =
      { p.stopped with
        seq := { p.stopped.seq with state := .fenced, level := none, held := false }
        traffic := { p.traffic with ort := p.fencedOrt }
        lines := { p.lines with slotReset := p.lines.slotReset || !p.lines.linkUp }
        current := { p.current with further := p.current.further ||| 0x40 } })
    (recovering : st = .recovering →
      q.seq.state = .fenced ∧ q.seq.phase = none ∧ q.seq.level = none ∧ q.seq.held = false ∧
      q.seq.phaseTimer = none ∧ q.exec.inFlight = none ∧ q.exec.step = none ∧ q.lines.slotReset = true ∧
      (q.lines.powerEnable = p.lines.powerEnable ∨ p.seq.phase = some .railWait) ∧
      q.seq.attempts = p.seq.attempts ∧ q.counters = p.counters ∧
      q.current = { p.current with further := p.current.further ||| 0x40 }) : s.KillTaken i n p q where
  serving h := by rw [Slot.serving, hst, hs] at h; cases h
  out h := out (hst ▸ h)
  fenced h := fenced (hst ▸ h)
  draining h := draining (hst ▸ h)
  recovering h := recovering (hst ▸ h)

end State.KillTaken

/-- What one slot's turn does: to the slot itself, to a partner that waits for its rail, to the number of the last
incident, and to the KILL-change bit. -/
structure State.TurnTaken (s x y : State) (i : SlotId) (n : Nat) : Prop where
  slot : s.KillTaken i n (x.slot i) (y.slot i)
  others : ∀ j, j ≠ i → y.slot j = x.slot j ∨ (x.slot j).seq.phase = some .railWait ∧ y.slot j = (x.slot j).inPowerOff
  sequence : y.sequence = s.sequence + BitVec.ofNat 16 (n + x.onlineIn [i])
  change : x.notices.summary.killChange = true → y.notices.summary.killChange = true

section Turn

variable {n : Nat}

theorem State.onlineIn_single (h : (x.slot i).seq.state ≠ .online) : x.onlineIn [i] = 0 := by
  simp [State.onlineIn, h]

/-- A serving slot trips. -/
theorem State.takeKill_serving (hx : x.FitsAll (fun _ => false) killed) (hk : x.kill = true) (htime : x.time = s.time)
    (hseq : x.sequence = s.sequence + BitVec.ofNat 16 n) (hs : (x.slot i).serving = true) :
    s.TurnTaken x (x.takeKill i) i n := by
  have htake : x.takeKill i = x.tripped i (x.slot i) .external 0 ((x.slot i).tripView x.time.now) := by
    have htrip : x.tripNow i .external = x.tripped i (x.slot i) .external 0 ((x.slot i).tripView x.time.now) := by
      conv_lhs => rw [← x.withSlotAt_self i]
      exact State.tripNow_eq hs _
    unfold State.takeKill
    obtain h | h := Slot.serving_iff.1 hs <;> rw [h] <;> exact htrip
  have hphase : (x.slot i).seq.phase = none := by
    rw [← Option.not_isSome_iff_eq_none, (hx.fits i).shaped.1]
    obtain h | h := Slot.serving_iff.1 hs <;> simp [h]
  obtain ⟨hg, hw⟩ := grantPhase_none hphase
  obtain ⟨htouch, hslot, hnumber⟩ := State.tripped_killed hk ((hx.grants i).unrailed hg hw) (x.slot i) .external
    ((x.slot i).tripView x.time.now)
  rw [htake]
  refine ⟨.of_serving hs ?_, fun j hj => .inl (htouch.others j hj), ?_, htouch.change⟩
  · rw [hslot, htime]
    simp only [State.tripKilled, State.tripSlot, State.faultRecord, hseq, htime]
  · rw [hnumber, hseq]
    by_cases h : (x.slot i).seq.state = .online
    · rw [if_pos h, BitVec.add_assoc, State.onlineIn, List.countP_singleton, if_pos (by simpa using h), BitVec.ofNat_add]
      rfl
    · rw [if_neg h, State.onlineIn_single h, Nat.add_zero]

/-- SLOT-RESET is asserted unless the link is up (R118). -/
theorem Slot.assertReset_unless (p : Slot) : (if p.lines.linkUp then p else p.assertReset) =
    { p with lines := { p.lines with slotReset := p.lines.slotReset || !p.lines.linkUp } } := by
  have hreset : (p.lines.slotReset || !p.lines.linkUp) = if p.lines.linkUp then p.lines.slotReset else true := by
    cases p.lines.linkUp <;> simp
  rw [hreset]
  split <;> rfl

theorem Slot.abortSequence_draining (h : p.seq.state = .draining) : p.abortSequence =
    { p.stopped with
      seq := { p.stopped.seq with state := .fenced, level := none, held := false }
      traffic := { p.traffic with ort := p.fencedOrt }
      lines := { p.lines with slotReset := p.lines.slotReset || !p.lines.linkUp } } := by
  have hreset := p.fenceAll.assertReset_unless
  rw [Slot.fenceAll_lines] at hreset
  simp only [Slot.abortSequence, h]
  rw [hreset, Slot.stopSequence_eq, Slot.fenceAll_eq]
  rfl

/-- A sequence is aborted to FENCED, its incident left PENDING with the cause among its further causes. -/
theorem State.takeKill_aborts (hx : x.FitsAll (fun _ => false) killed)
    (hseq : x.sequence = s.sequence + BitVec.ofNat 16 n)
    (hs : (x.slot i).seq.state = .draining ∨ (x.slot i).seq.state = .recovering) : s.TurnTaken x (x.takeKill i) i n := by
  obtain ⟨q, hq⟩ : ∃ q : Slot, q = { x.slot i with current := { (x.slot i).current with
      further := (x.slot i).current.further ||| 0x40 } } := ⟨_, rfl⟩
  have hpending : (x.slot i).current.outcome = .pending :=
    (hx.fits i).recorded.1.2 (.inr (by obtain h | h := hs <;> simp [h, SlotState.inSequence]))
  have htake : x.takeKill i = (x.withSlotAt i q.abortSequence).releaseRail i := by
    have habort : (x.modSlot i fun p => p.addFurther .external).abort i =
        (x.withSlotAt i q.abortSequence).releaseRail i := by
      rw [State.modSlot_withSlotAt, Slot.addFurther_external hpending, ← hq, State.abort, State.modSlot_withSlotAt,
        State.withSlotAt_slot, State.withSlotAt_withSlotAt]
    unfold State.takeKill
    obtain h | h := hs <;> rw [h] <;> exact habort
  have hrail : (x.withSlotAt i q.abortSequence).RailOk i.rail := by
    simpa only [State.RailOk, State.rail_withSlotAt] using hx.rails i.rail
  rw [htake]
  refine ⟨?_, fun j hj => ?_, ?_, fun h => ?_⟩
  · rw [State.slot_releaseRail_self hrail, State.withSlotAt_slot]
    obtain h | h := hs
    · refine .of_state h rfl (fun hc => by simp at hc) (fun hc => by cases hc) (fun _ => ?_) fun hc => by cases hc
      rw [Slot.abortSequence_draining (p := q) (by rw [hq]; exact h), hq]
      rfl
    · refine .of_state h rfl (fun hc => by simp at hc) (fun hc => by cases hc) (fun hc => by cases hc) fun _ => ?_
      rw [hq]
      simp only [Slot.abortSequence, h, Slot.stopSequence_eq]
      exact ⟨rfl, rfl, rfl, rfl, rfl, rfl, rfl, rfl, .inl rfl, rfl, rfl, rfl⟩
  · have hother := (x.withSlotAt i q.abortSequence).releaseRail_other (i := i) (j := j)
      (by simpa only [State.GrantOk, State.withSlotAt_slot_ne _ _ hj, State.rail_withSlotAt] using hx.grants j) hrail
    rwa [State.withSlotAt_slot_ne _ _ hj] at hother
  · rw [(State.SameOrigins.releaseRail _ i).sequence, State.onlineIn_single (by obtain h | h := hs <;> simp [h])]
    exact hseq
  · rw [State.releaseRail_killChange]
    exact h

/-- Every slot's turn. -/
theorem State.takeKill_spec (hx : x.FitsAll (fun _ => false) killed) (hk : x.kill = true) (htime : x.time = s.time)
    (hseq : x.sequence = s.sequence + BitVec.ofNat 16 n) (i : SlotId) : s.TurnTaken x (x.takeKill i) i n := by
  have hnumber : (x.slot i).seq.state ≠ .online → x.sequence = s.sequence + BitVec.ofNat 16 (n + x.onlineIn [i]) :=
    fun h => by rw [State.onlineIn_single h]; exact hseq
  have hout : (x.slot i).seq.state = .offline ∨ (x.slot i).seq.state = .retired ∨ (x.slot i).seq.state = .empty →
      s.TurnTaken x (x.takeKill i) i n := fun hs => by
    have htake : x.takeKill i = x := by
      unfold State.takeKill
      obtain h | h | h := hs <;> rw [h]
    rw [htake]
    refine ⟨?_, fun _ _ => .inl rfl, hnumber (by obtain h | h | h := hs <;> simp [h]), id⟩
    refine .of_state rfl ?_ (fun _ => rfl) (fun h => ?_) (fun h => ?_) fun h => ?_
    · obtain h | h | h := hs <;> rw [h] <;> rfl
    · simp [h] at hs
    · simp [h] at hs
    · simp [h] at hs
  cases hs : (x.slot i).seq.state with
  | online => exact State.takeKill_serving hx hk htime hseq (Slot.serving_iff.2 (.inl hs))
  | probation => exact State.takeKill_serving hx hk htime hseq (Slot.serving_iff.2 (.inr hs))
  | draining => exact State.takeKill_aborts hx hseq (.inl hs)
  | recovering => exact State.takeKill_aborts hx hseq (.inr hs)
  | fenced =>
    have htake : x.takeKill i = x.withSlotAt i { x.slot i with current := { (x.slot i).current with
        further := (x.slot i).current.further ||| 0x40 } } := by
      unfold State.takeKill
      rw [hs]
      rw [State.modSlot_withSlotAt, Slot.addFurther_external ((hx.fits i).recorded.1.2 (.inl hs))]
    rw [htake]
    have htouch := State.Touches.withSlotAt x i { x.slot i with current := { (x.slot i).current with
        further := (x.slot i).current.further ||| 0x40 } }
    refine ⟨.of_state hs rfl (fun h => by simp at h) (fun _ => State.withSlotAt_slot ..) (fun h => by cases h)
      (fun h => by cases h), fun j hj => .inl (htouch.others j hj), hnumber (by simp [hs]), htouch.change⟩
  | offline => exact hout (.inl hs)
  | retired => exact hout (.inr (.inl hs))
  | empty => exact hout (.inr (.inr hs))

end Turn

/-! ### The four slots, each in its turn -/

/-- A slot that has got its rail meanwhile takes the assertion as it would have taken it waiting. -/
theorem State.KillTaken.of_waiting {n : Nat} {q : Slot} (hs : p.seq.state = .recovering)
    (hp : p.seq.phase = some .railWait) (h : s.KillTaken i n p.inPowerOff q) : s.KillTaken i n p q := by
  refine .of_state hs rfl (fun hc => by simp at hc) (fun hc => by cases hc) (fun hc => by cases hc) fun _ => ?_
  obtain ⟨h1, h2, h3, h4, h5, h6, h7, h8, -, h10, h11, h12⟩ := h.recovering hs
  exact ⟨h1, h2, h3, h4, h5, h6, h7, h8, .inr hp, h10, h11, h12⟩

theorem State.TurnTaken.onlineIn {n : Nat} (h : s.TurnTaken x y i n) {l : List SlotId} (hl : i ∉ l) :
    y.onlineIn l = x.onlineIn l := by
  refine List.countP_congr fun j hj => ?_
  have hji : j ≠ i := fun hc => hl (hc ▸ hj)
  obtain hsame | ⟨-, hsame⟩ := h.others j hji
  · rw [hsame]
  · rw [hsame]
    rfl

theorem State.onlineIn_cons (x : State) (i : SlotId) (l : List SlotId) : x.onlineIn (i :: l) = x.onlineIn [i] + x.onlineIn l := by
  rw [State.onlineIn, ← List.singleton_append, List.countP_append]
  rfl

theorem State.foldl_takeKill_spec (l : List SlotId) : ∀ {x : State} {killed : SlotId → Bool} {n : Nat}, l.Nodup →
    x.FitsAll (fun _ => false) killed → x.kill = true → x.time = s.time →
    x.sequence = s.sequence + BitVec.ofNat 16 n →
    (∀ i ∈ l, s.KillTaken i (n + x.onlineIn (l.takeWhile fun j => j != i)) (x.slot i) ((l.foldl State.takeKill x).slot i)) ∧
    (∀ j, j ∉ l → (x.slot j).seq.phase ≠ some .railWait → (l.foldl State.takeKill x).slot j = x.slot j) ∧
    (l.foldl State.takeKill x).sequence = s.sequence + BitVec.ofNat 16 (n + x.onlineIn l) ∧
    (x.notices.summary.killChange = true → (l.foldl State.takeKill x).notices.summary.killChange = true) := by
  induction l with
  | nil => exact fun _ _ _ _ hseq => ⟨fun _ h => absurd h List.not_mem_nil, fun _ _ _ => rfl, hseq, id⟩
  | cons i is ih =>
    intro x killed n hnodup hx hk htime hseq
    obtain ⟨hi, his⟩ := List.nodup_cons.1 hnodup
    have hturn := State.takeKill_spec hx hk htime hseq i
    have hat : (x.takeKill i).FitsAt (fun _ => false) (fun j => killed j || decide (j = i)) i :=
      State.FitsBut.takeKill (hx.but (fun _ _ => rfl) (fun j hj => by simp [hj]) fun _ => hk) (hx.fits i).unkilled
        (hx.grants i)
    obtain ⟨htaken, hrest, hnumber, hchange⟩ := ih his (hat.all rfl) (by simpa using hk)
      ((x.takeKill_quiet i).time.trans htime) hturn.sequence
    have hdone : (x.takeKill i).slot i = ((i :: is).foldl State.takeKill x).slot i := by
      refine (hrest i hi fun hp => ?_).symm
      obtain ⟨-, hstate⟩ := hat.slot.out (by simp)
      exact hstate (hat.slot.shaped.1.1 (by rw [hp]; rfl))
    refine ⟨fun j hj => ?_, fun j hj hp => ?_, ?_, fun h => hchange (hturn.change h)⟩
    · by_cases hji : j = i
      · subst hji
        rw [← hdone, List.takeWhile_cons_of_neg (by simp)]
        exact hturn.slot
      · have hjis : j ∈ is := (List.mem_cons.1 hj).resolve_left hji
        have hlater := htaken j hjis
        rw [hturn.onlineIn fun h => hi (List.takeWhile_subset _ h), Nat.add_assoc, ← State.onlineIn_cons,
          ← List.takeWhile_cons_of_pos (p := fun k => k != j) (by simpa using Ne.symm hji)] at hlater
        obtain hsame | ⟨hp, hsame⟩ := hturn.others j hji
        · rw [hsame] at hlater
          exact hlater
        · rw [hsame] at hlater
          exact hlater.of_waiting ((hx.fits j).shaped.1.1 (by rw [hp]; rfl)) hp
    · obtain ⟨hji, hjis⟩ := not_or.1 (mt List.mem_cons.2 hj)
      have hsame : (x.takeKill i).slot j = x.slot j := (hturn.others j hji).resolve_right fun h => hp h.1
      rw [← hsame]
      exact hrest j hjis (by rw [hsame]; exact hp)
    · refine hnumber.trans ?_
      rw [hturn.onlineIn hi, Nat.add_assoc, ← State.onlineIn_cons]

theorem slotOrder_nodup (order : List SlotId) : (slotOrder order).Nodup := by
  refine List.Nodup.append (List.nodup_dedup _) (List.Nodup.filter _ (by decide)) fun i h1 h2 => ?_
  have h3 := (List.mem_filter.1 h2).2
  simp [List.mem_dedup.1 h1] at h3

/-- No slot has a part in a rail once every slot has taken the assertion. -/
theorem State.FitsAll.rail_free (h : x.FitsAll (fun _ => false) fun _ => true) (r : RailId) :
    x.rail r = { holder := none, waiting := none } := by
  have hphase : ∀ j, (x.slot j).seq.phase = none := fun j => by
    rw [← Option.not_isSome_iff_eq_none, (h.fits j).shaped.1]
    exact ((h.fits j).out rfl).2
  have hnone : ∀ j, x.Unrailed j := fun j =>
    (h.grants j).unrailed (grantPhase_none (hphase j)).1 (grantPhase_none (hphase j)).2
  obtain ⟨hhold, hwait⟩ := h.rails r
  have h1 : (x.rail r).holder = none := Option.eq_none_iff_forall_ne_some.2 fun j hj =>
    (hnone j).1 (by rw [hhold j hj]; exact hj)
  have h2 : (x.rail r).waiting = none := Option.eq_none_iff_forall_ne_some.2 fun j hj =>
    (hnone j).2 (by rw [(hwait j hj).1]; exact hj)
  cases hr : x.rail r with
  | mk holder waiting =>
    simp only [hr] at h1 h2
    rw [h1, h2]

/-! ### What becomes of a serving slot -/

/-- A trip changes nothing of the record but the count of dropped requests once DRAINING is entered. -/
theorem Slot.drainEntered_current (p : Slot) : ∃ d, p.drainEntered.current = { p.current with dropped := d } := by
  have hif : ∀ (c : Prop) [Decidable c] (n : Nat), ∃ d,
      (if c then { p.current with dropped := n } else p.current) = { p.current with dropped := d } := fun c _ n => by
    split
    · exact ⟨n, rfl⟩
    · exact ⟨p.current.dropped, rfl⟩
  exact hif _ _

theorem Slot.attemptFailed_current (p : Slot) : ∃ a, p.attemptFailed.current = { p.current with attempts := a } := by
  unfold Slot.attemptFailed
  split
  · exact ⟨p.current.attempts, rfl⟩
  · dsimp only
    split
    · exact ⟨_, rfl⟩
    · exact ⟨p.current.attempts, rfl⟩

/-- The end of a drain while KILL is asserted, for what it leads to and what it leaves of the record. -/
theorem Slot.drainKilled_spec (p : Slot) (now : Ticks) :
    ((p.drainKilled now).seq.state = match p.current.kind with
      | .fault => .fenced
      | .admission => .offline) ∧
    (p.drainKilled now).current.firstCause = p.current.firstCause ∧
    (p.drainKilled now).current.further = p.current.further ∧
    (p.drainKilled now).current.tripState = p.current.tripState ∧
    (p.drainKilled now).counters = p.counters := by
  unfold Slot.drainKilled
  cases p.current.kind with
  | fault => exact ⟨rfl, rfl, rfl, rfl, rfl⟩
  | admission =>
    refine ⟨rfl, ?_, ?_, ?_, rfl⟩ <;>
    · simp only [Slot.closedAs]
      split <;> rfl

theorem Slot.drainKilled_of_fault (h : p.current.kind = .fault) (now : Ticks) :
    p.drainKilled now = { p.drainFenced with seq := { p.drainFenced.seq with held := false } } := by
  simp only [Slot.drainKilled, h]

/-- A slot that trips from ONLINE while KILL is asserted. -/
theorem State.tripKilled_online (hs : p.seq.state = .online) (view : TripView) :
    (((s.tripKilled i p .external view).seq.state) = if p.liveCount = 0 ∨ p.seq.plan.drain = 0 then .fenced else .draining) ∧
    (s.tripKilled i p .external view).current.firstCause = .trip .external ∧
    (s.tripKilled i p .external view).current.outcome = .pending ∧
    (s.tripKilled i p .external view).current.tripState = .online ∧
    (s.tripKilled i p .external view).previous = p.current ∧ (s.tripKilled i p .external view).lines = p.lines ∧
    (s.tripKilled i p .external view).counters.trips = min 4294967295 (p.counters.trips + 1) := by
  obtain ⟨q, hq⟩ : ∃ q : Slot, q = { p with
      counters := { p.counters with trips := min 4294967295 (p.counters.trips + 1) }
      previous := p.current
      current := s.faultRecord i (.trip .external) 0 view } := ⟨_, rfl⟩
  have hslot : s.tripSlot i p .external view = q.drainEntered := by
    rw [hq, State.tripSlot, if_pos hs]
  obtain ⟨d, hd⟩ := q.drainEntered_current
  have hcurrent : q.drainEntered.current = { s.faultRecord i (.trip .external) 0 view with dropped := d } := by
    rw [hd, hq]
  unfold State.tripKilled
  rw [hslot]
  split
  · rw [Slot.drainKilled_of_fault (by rw [hcurrent]; rfl)]
    simp only [Slot.drainFenced, hcurrent, State.faultRecord]
    exact ⟨trivial, trivial, trivial, trivial, by rw [hq]; rfl, by rw [hq]; rfl, by rw [hq]; rfl⟩
  · simp only [hcurrent, State.faultRecord]
    exact ⟨rfl, trivial, trivial, trivial, by rw [hq]; rfl, by rw [hq]; rfl, by rw [hq]; rfl⟩

/-- A slot that trips in PROBATION, before its drain can end. -/
theorem State.tripSlot_probation (hs : p.seq.state = .probation) (hp : p.current.outcome = .pending) (view : TripView) :
    (s.tripSlot i p .external view).seq.state = .draining ∧
    (s.tripSlot i p .external view).current.kind = p.current.kind ∧
    (s.tripSlot i p .external view).current.firstCause = p.current.firstCause ∧
    (s.tripSlot i p .external view).current.further = p.current.further ||| 0x40 ∧
    (s.tripSlot i p .external view).current.tripState = .probation ∧
    (s.tripSlot i p .external view).counters.trips = min 4294967295 (p.counters.trips + 1) := by
  obtain ⟨r, hr⟩ : ∃ r : Slot, r = { p with
      counters := { p.counters with trips := min 4294967295 (p.counters.trips + 1) }
      current := { p.current with
        further := p.current.further ||| TripCause.external.mask ||| 0, tripState := .probation, view := view } } := ⟨_, rfl⟩
  have hfurther : p.current.further ||| TripCause.external.mask ||| 0 = p.current.further ||| 0x40 := BitVec.or_zero
  have hslot : s.tripSlot i p .external view = match p.current.kind with
      | .fault => r.attemptFailed.drainEntered
      | .admission => r.drainEntered := by
    rw [hr, State.tripSlot, if_neg (by simp [hs])]
    simp only [if_pos hp]
  rw [hslot]
  cases hk : p.current.kind with
  | fault =>
    obtain ⟨d, hd⟩ := r.attemptFailed.drainEntered_current
    obtain ⟨a, ha⟩ := r.attemptFailed_current
    have hcounters : r.attemptFailed.counters = r.counters := by
      unfold Slot.attemptFailed
      split <;> rfl
    simp only [hd, ha]
    refine ⟨rfl, ?_, ?_, ?_, ?_, ?_⟩
    · rw [hr]; exact hk
    · rw [hr]
    · rw [hr]; exact hfurther
    · rw [hr]
    · exact (congrArg SlotCounters.trips hcounters).trans (by rw [hr])
  | admission =>
    obtain ⟨d, hd⟩ := r.drainEntered_current
    simp only [hd]
    refine ⟨rfl, ?_, ?_, ?_, ?_, ?_⟩
    · rw [hr]; exact hk
    · rw [hr]
    · rw [hr]; exact hfurther
    · rw [hr]
    · rw [hr]; rfl

/-- A slot that trips from PROBATION while KILL is asserted. -/
theorem State.tripKilled_probation (hs : p.seq.state = .probation) (hp : p.current.outcome = .pending) (view : TripView) :
    (p.liveCount ≠ 0 → p.seq.plan.drain ≠ 0 → (s.tripKilled i p .external view).seq.state = .draining) ∧
    (p.liveCount = 0 ∨ p.seq.plan.drain = 0 →
      (s.tripKilled i p .external view).seq.state = match p.current.kind with
        | .fault => .fenced
        | .admission => .offline) ∧
    (s.tripKilled i p .external view).current.firstCause = p.current.firstCause ∧
    (s.tripKilled i p .external view).current.further.getLsbD 6 = true ∧
    (s.tripKilled i p .external view).current.tripState = .probation ∧
    (s.tripKilled i p .external view).counters.trips = min 4294967295 (p.counters.trips + 1) := by
  obtain ⟨hstate, hkind, hcause, hfurther, htrip, hcount⟩ := State.tripSlot_probation (s := s) (i := i) hs hp view
  have hbit : (p.current.further ||| 0x40 : CauseSet).getLsbD 6 = true := by
    rw [BitVec.getLsbD_or]
    exact Bool.or_true _
  unfold State.tripKilled
  by_cases hend : p.liveCount = 0 ∨ p.seq.plan.drain = 0
  · obtain ⟨h1, h2, h3, h4, h5⟩ := (s.tripSlot i p .external view).drainKilled_spec s.time.now
    rw [if_pos hend]
    refine ⟨fun ha hb => ?_, fun _ => ?_, h2.trans hcause, ?_, h4.trans htrip, (congrArg _ h5).trans hcount⟩
    · exact absurd hend (by simp [ha, hb])
    · rw [h1, hkind]
    · rw [h3, hfurther]
      exact hbit
  · rw [if_neg hend]
    exact ⟨fun _ _ => hstate, fun h => absurd h hend, hcause, by rw [hfurther]; exact hbit, htrip, hcount⟩

/-- Settles O46: the assertion slot by slot, the deassertion, and the levels that do not change. -/
theorem killEdges : Obligations.KillEdges := by
  refine ⟨fun s order hk => congrArg _ (if_pos hk), fun s hk => congrArg _ (if_neg (by simp [hk])),
    fun s hk => ?_, fun s order hsound hk => ?_⟩
  · refine congrArg _ ((if_pos hk).trans ?_)
    exact State.raiseSummary_eq _ _
  · obtain ⟨x, hxdef⟩ : ∃ x, x = ({ s with kill := true } : State).raiseKill := ⟨_, rfl⟩
    have hslot : ∀ j, x.slot j = s.slot j := fun j => by
      rw [hxdef, State.slot_raiseKill]
      rfl
    have hrail : ∀ r, x.rail r = s.rail r := fun r => by
      rw [hxdef]
      exact (State.rail_raiseKill _ r).trans (by cases r <;> rfl)
    have hall : x.FitsAll (fun _ => false) fun _ => false := by
      refine ⟨fun j => ?_, hsound.steady.grants_of_same hrail fun j => by rw [hslot], hsound.steady.rails_of_same hrail⟩
      rw [hslot]
      exact (hsound.steady.fits j).unkilled
    have hkill : x.kill = true := by rw [hxdef, State.raiseKill_kill]
    have htime : x.time = s.time := by rw [hxdef, State.raiseKill_time]
    have hseq : x.sequence = s.sequence + BitVec.ofNat 16 0 := by
      rw [hxdef, State.raiseKill_sequence]
      exact (BitVec.add_zero _).symm
    have hchange : x.notices.summary.killChange = true := by
      rw [hxdef]
      exact State.raiseSummary_killChange _ rfl
    obtain ⟨htaken, -, hnumber, hbit⟩ := State.foldl_takeKill_spec (s := s) (slotOrder order) (slotOrder_nodup order) hall
      hkill htime hseq
    have hend : ((slotOrder order).foldl State.takeKill x).FitsAll (fun _ => false) fun _ => true := by
      simpa [mem_slotOrder] using hall.foldl_takeKill (slotOrder order) hkill
    have hquiet : State.Quiet { s with kill := true } ((slotOrder order).foldl State.takeKill x) := by
      rw [hxdef]
      exact ((State.raiseKill_calm { s with kill := true }).trans
        (State.foldl_calm ({ s with kill := true } : State).raiseKill (fun u j => u.takeKill_calm j)
            (slotOrder order))).quiet
    refine ⟨(slotOrder order).foldl State.takeKill x, ?_, ?_, hbit hchange, ?_, fun i => ?_⟩
    · refine congrArg _ ((if_neg (by simp [hk])).trans ?_)
      rw [hxdef]
    · have ha : ((slotOrder order).foldl State.takeKill x).railA = { holder := none, waiting := none } := hend.rail_free .a
      have hb : ((slotOrder order).foldl State.takeKill x).railB = { holder := none, waiting := none } := hend.rail_free .b
      have hkept := hquiet
      unfold State.Quiet at hkept
      rw [ha, hb] at hkept
      exact hkept
    · rw [hnumber, Nat.zero_add]
      refine congrArg (fun n => s.sequence + BitVec.ofNat 16 n) ?_
      exact List.countP_congr fun j _ => by rw [hslot]
    · have hi := htaken i (mem_slotOrder order i)
      have hopened : x.onlineIn ((slotOrder order).takeWhile fun j => j != i) =
          ((slotOrder order).takeWhile fun j => j != i).countP fun j => (s.slot j).seq.state == .online :=
        List.countP_congr fun j _ => by rw [hslot]
      rw [Nat.zero_add, hopened, hslot] at hi
      have hunrailed : (s.slot i).serving = true → s.Unrailed i := fun hs => by
        have hphase : (s.slot i).seq.phase = none := by
          rw [← Option.not_isSome_iff_eq_none, (hsound.steady.fits i).shaped.1]
          obtain h | h := Slot.serving_iff.1 hs <;> simp [h]
        exact (hsound.steady.grants i).unrailed (grantPhase_none hphase).1 (grantPhase_none hphase).2
      refine ⟨fun hs => ?_, hi.out, hi.fenced, hi.draining, hi.recovering, fun hs => ?_, fun hs => ?_⟩
      · refine (hi.serving hs).trans ?_
        obtain ⟨-, hkilled, -⟩ := State.tripped_killed (s := { s with
          kill := true, sequence := s.sequence + BitVec.ofNat 16
            (((slotOrder order).takeWhile fun j => j != i).countP fun j => (s.slot j).seq.state == .online) })
          (i := i) rfl ((hunrailed hs).congr fun r => by cases r <;> rfl) (s.slot i) .external
          ((s.slot i).tripView s.time.now)
        exact hkilled.symm
      · rw [hi.serving (Slot.serving_iff.2 (.inl hs))]
        exact State.tripKilled_online hs _
      · rw [hi.serving (Slot.serving_iff.2 (.inr hs))]
        exact State.tripKilled_probation hs
          ((hsound.steady.fits i).recorded.1.2 (.inr (by rw [hs]; rfl))) _

end Sys2Proof.Machine

/-! A head that waits for an entry is considered again where one is freed (chapter 2). -/

namespace Sys2Proof.Machine

variable {s t u : State} {i j : SlotId} {p : Slot}

/-! ### A failed attempt leaves the slot out of service -/

theorem State.state_closeIncident (s : State) (i j : SlotId) (oc : IncidentOutcome) :
    ((s.closeIncident i oc).slot j).seq.state = (s.slot j).seq.state := by
  by_cases hj : j = i
  · subst hj
    rw [State.slot_closeIncident_same]
    rfl
  · simp [hj]

theorem State.state_modSlot (s : State) (i j : SlotId) {f : Slot → Slot}
    (h : (f (s.slot i)).seq.state = (s.slot i).seq.state) : ((s.modSlot i f).slot j).seq.state = (s.slot j).seq.state := by
  rw [State.slot_modSlot]
  split
  · next hj => rw [h, hj]
  · rfl

theorem State.state_releaseRail (s : State) (i j : SlotId) :
    ((s.releaseRail i).slot j).seq.state = (s.slot j).seq.state := by
  unfold State.releaseRail
  dsimp only
  split
  · split
    · exact (State.state_modSlot _ _ j rfl).trans (by rw [State.slot_setRail])
    · rw [State.slot_setRail]
  · split
    · rw [State.slot_setRail]
    · rfl

theorem State.state_enterRailWait (s : State) (i j : SlotId) :
    ((s.enterRailWait i).slot j).seq.state = (s.slot j).seq.state := by
  have hwait : ((s.modSlot i fun p => p.enterPhase .railWait none).slot j).seq.state = (s.slot j).seq.state :=
    State.state_modSlot s i j rfl
  unfold State.enterRailWait
  dsimp only
  split
  · exact (State.state_modSlot _ i j rfl).trans (by rw [State.slot_setRail]; exact hwait)
  · rw [State.slot_setRail]
    exact hwait

theorem State.state_enterFirstPhase (s : State) (i j : SlotId) (l : Level) :
    ((s.enterFirstPhase i l).slot j).seq.state = (s.slot j).seq.state := by
  cases l with
  | function => exact State.state_modSlot s i j (by simp [Slot.enterFunctionReset])
  | slot => exact State.state_modSlot s i j rfl
  | power => exact s.state_enterRailWait i j

theorem State.retire_state (s : State) (i : SlotId) (a : RetireAction) : ((s.retire i a).slot i).seq.state = .retired := by
  unfold State.retire
  rw [State.state_closeIncident, State.state_releaseRail, State.slot_modSlot_same]
  cases a <;> rfl

theorem State.failAdmission_state (s : State) (i : SlotId) : ((s.failAdmission i).slot i).seq.state = .offline := by
  unfold State.failAdmission
  rw [State.state_closeIncident, State.state_releaseRail, State.slot_modSlot_same]
  rfl

theorem State.beginAttempt_state (s : State) (i : SlotId) (l : Level) (afterFailure : Bool) :
    ((s.beginAttempt i l afterFailure).slot i).seq.state = .recovering := by
  unfold State.beginAttempt
  rw [State.state_enterFirstPhase, State.slot_modSlot_same]
  split <;> simp [Slot.beginLevel]

/-- The ladder begins an attempt or retires the slot. -/
theorem State.climb_contained (s : State) (i : SlotId) (afterFailure : Bool) :
    ((s.climb i afterFailure).slot i).serving = false := by
  have hretire : ∀ (u : State) (a : RetireAction), ((u.retire i a).slot i).serving = false := fun u a => by
    rw [Slot.serving, u.retire_state]; rfl
  have hbegin : ∀ (u : State) (l : Level) (b : Bool), ((u.beginAttempt i l b).slot i).serving = false := fun u l b => by
    rw [Slot.serving, u.beginAttempt_state]; rfl
  unfold State.climb
  split
  · exact hretire _ _
  · split
    · exact hbegin _ _ _
    · dsimp only
      split
      · exact hretire _ _
      · exact hbegin _ _ _
  · exact hbegin _ _ _

theorem State.failAttempt_contained (s : State) (i : SlotId) : ((s.failAttempt i).slot i).serving = false := by
  unfold State.failAttempt
  split
  · rw [Slot.serving, State.failAdmission_state]; rfl
  · exact State.climb_contained _ i true

/-! ### What keeps the entries of an ORT -/

theorem State.ort_modSlot (s : State) (i j : SlotId) {f : Slot → Slot}
    (h : (f (s.slot i)).traffic.ort = (s.slot i).traffic.ort := by simp) :
    ((s.modSlot i f).slot j).traffic.ort = (s.slot j).traffic.ort := by
  rw [State.slot_modSlot]
  split
  · next hj => rw [h, hj]
  · rfl

theorem State.ort_closeIncident (s : State) (i j : SlotId) (oc : IncidentOutcome) :
    ((s.closeIncident i oc).slot j).traffic.ort = (s.slot j).traffic.ort := by
  by_cases hj : j = i
  · subst hj
    rw [State.slot_closeIncident_same]
    rfl
  · simp [hj]

theorem State.ort_enterProbation (s : State) (i j : SlotId) :
    ((s.enterProbation i).slot j).traffic.ort = (s.slot j).traffic.ort := by
  have hentered : ((s.modSlot i Slot.enterProbation).slot j).traffic.ort = (s.slot j).traffic.ort := s.ort_modSlot i j
  unfold State.enterProbation
  dsimp only
  split
  · unfold State.goOnline
    exact (State.ort_closeIncident _ i j _).trans ((State.ort_modSlot _ i j rfl).trans hentered)
  · exact hentered

theorem State.ort_enterRestoring (s : State) (i j : SlotId) :
    ((s.enterRestoring i).slot j).traffic.ort = (s.slot j).traffic.ort := by
  have hentered : ((s.modSlot i fun p => p.enterPhase .restoring none).slot j).traffic.ort = (s.slot j).traffic.ort :=
    s.ort_modSlot i j
  unfold State.enterRestoring
  dsimp only
  split
  · exact (State.ort_modSlot _ i j).trans hentered
  · exact (State.ort_enterProbation _ i j).trans hentered

theorem State.ort_settleDone (s : State) (i j : SlotId) :
    ((s.settleDone i).slot j).traffic.ort = (s.slot j).traffic.ort := by
  unfold State.settleDone
  split
  · exact s.ort_enterRestoring i j
  · exact s.ort_enterProbation i j

theorem State.ort_enterSettle (s : State) (i j : SlotId) :
    ((s.enterSettle i).slot j).traffic.ort = (s.slot j).traffic.ort := by
  have hentered : ((s.modSlot i fun p =>
      p.stopExecutor.enterPhase .settle (some (units p.seq.sample.settle))).slot j).traffic.ort = (s.slot j).traffic.ort :=
    s.ort_modSlot i j
  unfold State.enterSettle
  dsimp only
  split
  · exact (State.ort_settleDone _ i j).trans hentered
  · exact hentered

theorem State.ort_passStep (s : State) (i j : SlotId) : ((s.passStep i).slot j).traffic.ort = (s.slot j).traffic.ort := by
  unfold State.passStep
  split
  · rfl
  · split
    · exact s.ort_modSlot i j
    · exact s.ort_enterProbation i j

/-! ### An answer to the executor frees no entry of a slot that serves after it -/

/-- The ORT of a slot that serves in the end is as it was. -/
def State.KeepsServed (s t : State) (i : SlotId) : Prop :=
  (t.slot i).serving = true → (t.slot i).traffic.ort = (s.slot i).traffic.ort

theorem State.KeepsServed.of_ort (h : (t.slot i).traffic.ort = (s.slot i).traffic.ort) : s.KeepsServed t i := fun _ => h

theorem State.keepsServed_failAttempt (s u : State) (i : SlotId) : s.KeepsServed (u.failAttempt i) i := fun hs =>
  absurd hs (by simp [u.failAttempt_contained])

theorem State.keepsServed_resetWriteAnswer (s : State) (i : SlotId) (st : Status) :
    s.KeepsServed (s.resetWriteAnswer i st) i := by
  cases st with
  | ok => exact .of_ort (s.ort_enterSettle i i)
  | retry => exact .of_ort (s.ort_modSlot i i rfl)
  | abort | unsupported => exact s.keepsServed_failAttempt s i

theorem State.keepsServed_stepAnswer (s : State) (i : SlotId) (st : Status) (data : List Byte) :
    s.KeepsServed (s.stepAnswer i st data) i := by
  have hread : ((s.readDword data).2.slot i).traffic.ort = (s.slot i).traffic.ort := by rw [State.readDword_slot]
  have hpass : s.KeepsServed ((s.readDword data).2.passStep i) i := .of_ort ((State.ort_passStep _ i i).trans hread)
  unfold State.stepAnswer
  cases (s.slot i).currentStep with
  | none => exact .of_ort rfl
  | some step =>
    cases st with
    | abort | unsupported => exact s.keepsServed_failAttempt s i
    | retry => cases step <;> exact .of_ort (s.ort_modSlot i i rfl)
    | ok =>
      cases step with
      | write off be d => exact .of_ort (s.ort_passStep i i)
      | pause n => exact .of_ort rfl
      | verify off mask expected =>
        dsimp only
        split
        · exact hpass
        · exact s.keepsServed_failAttempt _ i
      | poll off mask expected limit =>
        dsimp only
        split
        · exact hpass
        · exact .of_ort ((State.ort_modSlot _ i i rfl).trans hread)

theorem State.keepsServed_executorAnswer (s : State) (i : SlotId) (tag : Tag) (st : Status) (data : List Byte) :
    s.KeepsServed (s.executorAnswer i tag st data) i := by
  unfold State.executorAnswer
  split
  · exact .of_ort rfl
  · split
    · have hclear : ((s.modSlot i fun p => { p with exec := { p.exec with inFlight := none } }).slot i).traffic.ort =
          (s.slot i).traffic.ort := s.ort_modSlot i i rfl
      dsimp only
      split
      · exact fun hs => (State.keepsServed_resetWriteAnswer _ i st hs).trans hclear
      · exact fun hs => (State.keepsServed_stepAnswer _ i st data hs).trans hclear
      · exact .of_ort hclear
    · exact .of_ort rfl

/-! ### The head is considered again -/

/-- A departure where no posted head stands at the Send Queue is a reconsideration with room on the link. -/
theorem exec_sendQueueDeparture_reconsiders (h : (s.slot i).HeadAwaits) :
    exec (.sendQueueDeparture i) s = .next (s.withSlotAt i ((s.slot i).reconsider s.time.now true)) := by
  show execSendQueueDeparture i s = _
  unfold execSendQueueDeparture Slot.reconsider
  cases hq : (s.slot i).traffic.sendQueue.head? with
  | none => simp only [State.withSlotAt_self]
  | some tx =>
    by_cases hup : ((s.slot i).serving && (s.slot i).lines.linkUp) = true
    · by_cases ha : (s.slot i).admissible tx = true
      · simp only [hup, h tx hq, ha, Bool.and_true, if_true, State.modSlot_withSlotAt]
      · simp only [hup, h tx hq, ha, Bool.and_false, Bool.false_eq_true, if_true, if_false, State.withSlotAt_self]
    · simp only [hup, Bool.false_and, Bool.false_eq_true, if_false, State.withSlotAt_self]

/-- With room on the link the slot does what it does without, and considers its head again, or nothing is freed. -/
def Slot.Readmits (p : Slot) (now : Ticks) (f : Bool → Slot) : Prop :=
  f true = (f false).reconsider now true ∧ (f false).traffic.sendQueue = p.traffic.sendQueue ∨
    (f true = f false ∧ (f false).traffic.ort.length = p.traffic.ort.length)

theorem Slot.completeEntry_readmits (p : Slot) (now : Ticks) (e : Entry) (st : Status) (tx : Transaction) :
    p.Readmits now (p.completeEntry now e st tx) := by
  refine .inl ⟨by simp only [Slot.completeEntry, Slot.reconsider_noRoom], ?_⟩
  simp only [Slot.completeEntry, Slot.reconsider_noRoom, Slot.deliverCapture_traffic]
  rfl

theorem Slot.takeAnswer_readmits (p : Slot) (now : Ticks) (r : Requester) (t : Tag) (st : Status) (rem cnt : Nat)
    (tx : Transaction) : p.Readmits now (p.takeAnswer now r t st rem cnt tx) := by
  unfold Slot.Readmits Slot.takeAnswer
  cases p.traffic.ort.find? (Entry.hasKey r t) with
  | none => exact .inr ⟨rfl, by simp⟩
  | some e =>
    dsimp only
    cases e.state with
    | live =>
      dsimp only
      cases e.judge st rem cnt with
      | final => exact p.completeEntry_readmits now e st tx
      | partly => exact .inr ⟨rfl, updateFirst_length ..⟩
      | malformed => exact .inr ⟨rfl, by simp⟩
    | fenced | answering => exact .inr ⟨rfl, by simp⟩
    | tombstone =>
      dsimp only
      split
      · exact .inl ⟨by rw [Slot.reconsider_noRoom], by simp [Slot.freeKey]⟩
      · exact .inr ⟨rfl, by simp⟩

theorem Slot.ownerTold_readmits (p : Slot) (now : Ticks) (n : Nat) : p.Readmits now (p.ownerTold now n) := by
  unfold Slot.Readmits Slot.ownerTold
  cases p.traffic.ort.find? (Entry.hasNumber n) with
  | none => exact .inr ⟨rfl, rfl⟩
  | some e =>
    dsimp only
    split
    · exact .inr ⟨rfl, updateFirst_length ..⟩
    · exact .inl ⟨by rw [Slot.reconsider_noRoom], by rw [Slot.reconsider_noRoom]⟩

/-- Settling what a slot does with and without room on its link, where the second frees an entry. -/
theorem State.departs_of_readmits {f : Bool → Slot} (h : (u.slot i).Readmits u.time.now f) (hq : (u.slot i).HeadAwaits)
    (hfreed : (f false).traffic.ort.length < (u.slot i).traffic.ort.length) :
    Host.Outcome.next (u.withSlotAt i (f true)) = exec (.sendQueueDeparture i) (u.withSlotAt i (f false)) := by
  obtain ⟨hadmit, hqueue⟩ | ⟨-, hkept⟩ := h
  · have hawaits : ((u.withSlotAt i (f false)).slot i).HeadAwaits := by
      rw [State.withSlotAt_slot]
      simpa only [Slot.HeadAwaits, hqueue] using hq
    rw [exec_sendQueueDeparture_reconsiders hawaits, State.withSlotAt_slot, State.withSlotAt_withSlotAt, hadmit]
    rfl
  · omega

/-- No entry of a slot's ORT comes or goes, and no posted head comes to stand at its Send Queue. -/
structure Slot.Waits (p q : Slot) : Prop where
  entries : q.traffic.ort.length = p.traffic.ort.length
  queue   : p.HeadAwaits → q.HeadAwaits

theorem Slot.Waits.refl (p : Slot) : p.Waits p := ⟨rfl, id⟩

theorem Slot.Waits.trans {p q r : Slot} (h : p.Waits q) (k : q.Waits r) : p.Waits r :=
  ⟨k.entries.trans h.entries, k.queue ∘ h.queue⟩

theorem Slot.Waits.of_traffic {p q : Slot} (h : q.traffic = p.traffic) : p.Waits q :=
  ⟨by rw [h], by simp only [Slot.HeadAwaits, h, imp_self]⟩

/-- What an event does with and without room on a slot's link: it frees no entry of that slot, or the same in both cases to a
slot that does not serve in the end; or, on a state in which the same head waits, what the slot does with room and without. -/
def State.Reconsiders (s : State) (i : SlotId) (event : Bool → Host.Outcome State Fault Refusal) : Prop :=
  (∃ t, event false = .next t ∧ ((t.slot i).traffic.ort.length = (s.slot i).traffic.ort.length ∨
    ((t.slot i).serving = false ∧ event true = .next t))) ∨
  ∃ (u : State) (f : Bool → Slot), (s.slot i).Waits (u.slot i) ∧ (u.slot i).Readmits u.time.now f ∧
    ∀ room, event room = .next (u.withSlotAt i (f room))

theorem State.Reconsiders.departs {event : Bool → Host.Outcome State Fault Refusal} (h : s.Reconsiders i event)
    (hq : (s.slot i).HeadAwaits) (hfreed : (t.slot i).traffic.ort.length < (s.slot i).traffic.ort.length)
    (ht : event false = .next t) : event true = exec (.sendQueueDeparture i) t := by
  obtain ⟨u, hu, hkept | ⟨hserv, hsame⟩⟩ | ⟨u, f, hwaits, hreadmits, hu⟩ := h
  · obtain rfl : u = t := Host.Outcome.next.inj (hu.symm.trans ht)
    exact absurd hfreed (by omega)
  · obtain rfl : u = t := Host.Outcome.next.inj (hu.symm.trans ht)
    rw [hsame, exec_sendQueueDeparture_contained hserv]
  · obtain rfl : u.withSlotAt i (f false) = t := Host.Outcome.next.inj ((hu false).symm.trans ht)
    rw [State.withSlotAt_slot, ← hwaits.entries] at hfreed
    rw [hu true]
    exact State.departs_of_readmits hreadmits (hwaits.queue hq) hfreed

/-- A card's transaction is taken the same with and without room on the link, but for an answer that the ORT waits for. -/
theorem exec_receiveQueueTake_reconsiders (hs : (s.slot i).serving = true) :
    s.Reconsiders i fun room => exec (.receiveQueueTake i room) s := by
  have hkept : ∀ {event : Bool → Host.Outcome State Fault Refusal} {t : State}, (∀ room, event room = .next t) →
      s.KeepsServed t i → s.Reconsiders i event := fun {_ t} he h => by
    refine .inl ⟨t, he false, ?_⟩
    cases hserv : (t.slot i).serving with
    | true => exact .inl (by rw [h hserv])
    | false => exact .inr ⟨rfl, he true⟩
  have hdropped : s.KeepsServed (s.modSlot i fun p => p.popReceive.countDroppedCardRequests 1) i :=
    .of_ort (s.ort_modSlot i i (by simp [Slot.popReceive]))
  show s.Reconsiders i fun room => execReceiveQueueTake i room s
  unfold execReceiveQueueTake
  cases hq : (s.slot i).traffic.recvQueue.head? with
  | none => exact hkept (fun _ => rfl) (.of_ort rfl)
  | some tx =>
    have hforward : s.KeepsServed (if (s.slot i).traffic.stage.isSome then s
        else s.modSlot i fun p => p.popReceive.stageTx tx) i := by
      split
      · exact .of_ort rfl
      · exact .of_ort (s.ort_modSlot i i rfl)
    cases tx with
    | cfgRead | cfgWrite => exact hkept (fun _ => rfl) hdropped
    | message dir x =>
      cases dir with
      | downstream => exact hkept (fun _ => rfl) hdropped
      | upstream => exact hkept (fun _ => by simp only [hs, if_true]) hforward
    | memRead | memWrite => exact hkept (fun _ => by simp only [hs, if_true]) hforward
    | answer r tag st rem cnt data =>
      by_cases hr : r = ownRequester
      · refine hkept (t := (s.modSlot i fun p => p.popReceive.reloadStall).executorAnswer i tag st data)
          (fun _ => by simp only [if_pos hr]) fun hserv => ?_
        exact (State.keepsServed_executorAnswer _ i tag st data hserv).trans (s.ort_modSlot i i (by simp [Slot.popReceive]))
      · by_cases hstage : (s.slot i).traffic.stage.isSome = true
        · exact hkept (fun _ => by simp only [if_neg hr, if_pos hstage]) (.of_ort rfl)
        · refine .inr ⟨s.withSlotAt i (s.slot i).popReceive.reloadStall,
            (s.slot i).popReceive.reloadStall.takeAnswer s.time.now r tag st rem cnt (.answer r tag st rem cnt data),
            ?_, ?_, fun room => ?_⟩
          · rw [State.withSlotAt_slot]
            exact ⟨by simp [Slot.popReceive], by simp [Slot.HeadAwaits, Slot.popReceive]⟩
          · rw [State.withSlotAt_slot]
            exact Slot.takeAnswer_readmits ..
          simp only [if_neg hr, if_neg hstage, State.modSlot_withSlotAt, State.withSlotAt_withSlotAt]
          refine congrArg _ (State.drainIfIdle_of_live fun hd => ?_)
          rw [State.withSlotAt_slot, (Slot.takeAnswer_follows ..).1.control.state] at hd
          have hstate : (s.slot i).seq.state = .draining := by simpa [Slot.popReceive] using hd
          rw [Slot.serving, hstate] at hs
          cases hs

/-! ### What comes before a grant of SYN frees no entry -/

theorem State.settleReset_waits (s : State) (j : SlotId) : (s.slot j).Waits (s.settleReset.slot j) := by
  unfold State.settleReset
  split
  · refine .of_traffic ?_
    show (s.restoreTables.slot j).traffic = _
    rw [State.slot_restoreTables]
    rfl
  · exact .refl _

theorem State.modSlot_waits (s : State) (i j : SlotId) {f : Slot → Slot} (h : (s.slot i).Waits (f (s.slot i))) :
    (s.slot j).Waits ((s.modSlot i f).slot j) := by
  rw [State.slot_modSlot]
  split
  · next hj => exact hj ▸ h
  · exact .refl _

theorem State.answerQueued_waits (s : State) (i j : SlotId) : (s.slot j).Waits ((s.answerQueued i).slot j) := by
  unfold State.answerQueued
  split
  · exact .refl _
  · split
    · split
      · refine .trans (State.modSlot_waits (s.appendOwed i _) i j
          (f := fun p => p.popSend.countSynthetic.dropPosted) ⟨?_, fun _ => Slot.dropPosted_headAwaits _⟩)
          (State.settleReset_waits _ j)
        show (Slot.countDroppedWrites _ _).traffic.ort.length = _
        simp [Slot.popSend]
      · exact .refl _
    · exact .refl _

theorem State.answerFenced_waits (s : State) (i j : SlotId) : (s.slot j).Waits ((s.answerFenced i).slot j) := by
  unfold State.answerFenced
  split
  · exact .refl _
  · split
    · refine .trans (State.modSlot_waits (s.appendOwed i _) i j ⟨?_, fun h => ?_⟩) (State.settleReset_waits _ j)
      · rw [Slot.countSynthetic_traffic]
        exact updateFirst_length ..
      · simpa only [Slot.HeadAwaits, Slot.countSynthetic_traffic] using h
    · exact .refl _

theorem State.meetClaims_waits (n : Nat) (s : State) (j : SlotId) : (s.slot j).Waits ((State.meetClaims n s).slot j) := by
  induction n generalizing s with
  | zero => exact .refl _
  | succ n ih =>
    unfold State.meetClaims
    split
    · refine .trans ?_ (ih _)
      unfold State.meetClaim
      split
      · exact .refl _
      · split
        · exact s.answerFenced_waits _ j
        · exact s.answerQueued_waits _ j
    · exact .refl _

theorem State.beforeSyn_waits (s : State) (j : SlotId) : (s.slot j).Waits (s.beforeSyn.slot j) := by
  unfold State.beforeSyn
  split
  · exact .refl _
  · split
    · exact State.meetClaims_waits _ s j
    · exact .refl _

/-! ### Grants -/

/-- The head item leaves the SAQ and is sent; its owner is told. -/
theorem State.grantSyn_unowned {item : SaqItem} {rest : List SaqItem} (hsaq : s.saq = item :: rest) (ho : item.owner = none)
    (room : Bool) : s.grantSyn room = ({ s with saq := rest } : State).sendTrunk item.toAnswer := by
  simp only [State.grantSyn, hsaq, ho]

theorem State.grantSyn_owned {item : SaqItem} {rest : List SaqItem} {o : Owner} (hsaq : s.saq = item :: rest)
    (ho : item.owner = some o) (room : Bool) : s.grantSyn room =
      (({ s with saq := rest } : State).sendTrunk item.toAnswer).withSlotAt o.slot
        ((s.slot o.slot).ownerTold s.time.now o.entry room) := by
  simp only [State.grantSyn, hsaq, ho]
  rfl

/-- A grant of SYN considers a head again where the item's owner is freed. -/
theorem State.grantSyn_reconsiders (s u : State) (i : SlotId) (hwaits : (s.slot i).Waits (u.slot i)) :
    s.Reconsiders i fun room => .next { u.grantSyn room with lastServed := .syn } := by
  cases hsaq : u.saq with
  | nil =>
    have hg : u.grantSyn false = u := by simp only [State.grantSyn, hsaq]
    exact .inl ⟨_, rfl, .inl (by rw [hg]; exact hwaits.entries)⟩
  | cons item rest =>
    cases ho : item.owner with
    | none =>
      refine .inl ⟨_, rfl, .inl ?_⟩
      rw [State.grantSyn_unowned hsaq ho]
      exact hwaits.entries
    | some o =>
      by_cases hi : o.slot = i
      · subst hi
        refine .inr ⟨{ ({ u with saq := rest } : State).sendTrunk item.toAnswer with lastServed := .syn },
          (u.slot o.slot).ownerTold u.time.now o.entry, hwaits, Slot.ownerTold_readmits .., fun room => ?_⟩
        dsimp only
        rw [State.grantSyn_owned hsaq ho]
        rfl
      · refine .inl ⟨_, rfl, .inl ?_⟩
        rw [State.grantSyn_owned hsaq ho]
        show (((({ u with saq := rest } : State).sendTrunk item.toAnswer).withSlotAt o.slot _).slot i).traffic.ort.length = _
        rw [State.withSlotAt_slot_ne _ _ (Ne.symm hi)]
        exact hwaits.entries

/-- A grant frees no entry of a slot, but one of SYN. -/
theorem exec_egressGrant_reconsiders (s : State) (i : SlotId) :
    s.Reconsiders i fun room => exec (.egressGrant room) s := by
  show s.Reconsiders i fun room => execEgressGrant room s
  unfold execEgressGrant
  by_cases hup : s.trunkUp = true
  · simp only [if_pos hup]
    cases s.nextSource with
    | none => exact .inl ⟨s, rfl, .inl rfl⟩
    | some src =>
      cases src with
      | slot j =>
        refine .inl ⟨_, rfl, .inl (congrArg List.length ?_)⟩
        show ((s.grantSlot j).slot i).traffic.ort = _
        unfold State.grantSlot
        split
        · rfl
        · exact s.ort_modSlot j i rfl
      | syn => exact s.grantSyn_reconsiders s.beforeSyn i (s.beforeSyn_waits i)
      | mgt =>
        refine .inl ⟨_, rfl, .inl (congrArg (fun p : Slot => p.traffic.ort.length) ?_)⟩
        show s.grantMgt.slot i = _
        unfold State.grantMgt
        split
        · rfl
        · rw [State.slot_present]
          split <;> rfl
        · rw [State.slot_present]
          rfl
  · simp only [if_neg hup]
    exact .inl ⟨s, rfl, .inl rfl⟩

/-- Settles O33: with room on the link the event considers the head again that the event without room leaves waiting. -/
theorem freedEntryAdmitsWaitingHead : Obligations.FreedEntryAdmitsWaitingHead := by
  intro s t i tx hs hq hn hfreed
  have hawaits : (s.slot i).HeadAwaits := fun x hx => by
    rw [hq] at hx
    cases hx
    exact hn
  exact ⟨(exec_receiveQueueTake_reconsiders hs).departs hawaits hfreed,
    (exec_egressGrant_reconsiders s i).departs hawaits hfreed⟩

end Sys2Proof.Machine

/-! What the Egress Arbiter sends (chapters 1, 5, 9 and 10). -/

namespace Sys2Proof.Machine

variable {s t u : State} {i j : SlotId}

/-! ### The slots and the Management Function (R19, R163, R169) -/

/-- What the Management Function presents next, once it presents nothing. -/
theorem State.present_eq (h : s.presenting = none) : s.present = { s with
    presenting := if s.waitingAnswer.isSome then some .answer else if s.notices.unsent then some .notice else none } := by
  unfold State.present
  rw [h]
  dsimp only
  split
  · rfl
  · split
    · rfl
    · rw [← h]

/-- The summary as a number, slot bits 0 to 3 and the KILL-change bit 4 (R179). -/
theorem Summary.toDword_toNat (m : Summary) : m.toDword.toNat =
    m.slots.s0.toNat + 2 * m.slots.s1.toNat + 4 * m.slots.s2.toNat + 8 * m.slots.s3.toNat + 16 * m.killChange.toNat := by
  have b0 := Bool.toNat_le m.slots.s0
  have b1 := Bool.toNat_le m.slots.s1
  have b2 := Bool.toNat_le m.slots.s2
  have b3 := Bool.toNat_le m.slots.s3
  have h0 := placeBit_toNat 0 m.slots.s0 (by omega)
  have h1 := or_placeBit_toNat (placeBit 0 m.slots.s0) 1 m.slots.s1 (by omega) (by omega)
  have h2 := or_placeBit_toNat _ 2 m.slots.s2 (h1.trans_lt (by omega)) (by omega)
  have h3 := or_placeBit_toNat _ 3 m.slots.s3 (h2.trans_lt (by omega)) (by omega)
  have h4 := or_placeBit_toNat _ 4 m.killChange (h3.trans_lt (by omega)) (by omega)
  unfold Summary.toDword
  omega

/-- A grant to a source other than SYN. -/
theorem exec_egressGrant_idle (room : Bool) (h : s.trunkUp = false ∨ ∀ src, s.ready src = false) :
    exec (.egressGrant room) s = .next s := by
  show execEgressGrant room s = _
  unfold execEgressGrant
  obtain hdown | hnone := h
  · simp only [hdown, Bool.false_eq_true, if_false]
  · simp only [State.nextSource_none hnone, ite_self]

theorem exec_egressGrant_slot (room : Bool) (hup : s.trunkUp = true) (hn : s.nextSource = some (.slot i)) :
    exec (.egressGrant room) s = .next { s.grantSlot i with lastServed := .slot i } := by
  show execEgressGrant room s = _
  simp only [execEgressGrant, hup, hn, if_true]

theorem exec_egressGrant_mgt (room : Bool) (hup : s.trunkUp = true) (hn : s.nextSource = some .mgt) :
    exec (.egressGrant room) s = .next { s.grantMgt with lastServed := .mgt } := by
  show execEgressGrant room s = _
  simp only [execEgressGrant, hup, hn, if_true]

/-- Settles O34: the granted source sends what it holds and becomes the last served. -/
theorem egressSendsWhatIsGranted : Obligations.EgressSendsWhatIsGranted := by
  refine ⟨fun s room h => exec_egressGrant_idle room h, fun s room i tx hup hn hstage => ?_, fun s room a hup hn hp ha => ?_,
    fun s room hup hn hp => ⟨s.notices.summary.toDword, ?_, s.notices.summary.toDword_toNat⟩⟩
  · rw [exec_egressGrant_slot room hup hn, State.grantSlot, hstage]
    rfl
  · rw [exec_egressGrant_mgt room hup hn, State.grantMgt, hp, ha]
    dsimp only
    rw [State.present_eq rfl]
    rfl
  · rw [exec_egressGrant_mgt room hup hn, State.grantMgt, hp]
    dsimp only
    rw [State.present_eq rfl]
    rfl

/-! ### The claims met before a grant of SYN (R93, R97, R172) -/

/-- What meeting claims does to what the arbiter sees: items join the SAQ, and no other source becomes ready. -/
structure State.Claiming (s u : State) : Prop where
  saq        : ∃ more, u.saq = s.saq ++ more
  trunkUp    : u.trunkUp = s.trunkUp
  lastServed : u.lastServed = s.lastServed
  stages     : s.SameStages u
  presents   : s.presenting = none ∧ s.waitingAnswer = none → u.presenting = none ∧ u.waitingAnswer = none

theorem State.Claiming.refl (s : State) : s.Claiming s := ⟨⟨[], by simp⟩, rfl, rfl, .refl s, id⟩

theorem State.Claiming.trans (h : s.Claiming t) (k : t.Claiming u) : s.Claiming u where
  saq := by
    obtain ⟨a, ha⟩ := h.saq
    obtain ⟨b, hb⟩ := k.saq
    exact ⟨a ++ b, by rw [hb, ha, List.append_assoc]⟩
  trunkUp := k.trunkUp.trans h.trunkUp
  lastServed := k.lastServed.trans h.lastServed
  stages := h.stages.trans k.stages
  presents := k.presents ∘ h.presents

theorem State.settleReset_claiming (s : State) : s.Claiming s.settleReset := by
  by_cases ho : s.OwesNothing
  · rw [(State.settleReset_eq s).1 ho]
    refine ⟨⟨[], by simp [State.resetEnded]⟩, rfl, rfl, fun j => by cases j <;> rfl, fun ⟨hp, hw⟩ => ⟨?_, hw⟩⟩
    simp [State.resetEnded, hp, hw]
  · rw [(State.settleReset_eq s).2 ho]
    exact .refl s

/-- An item joins the SAQ as a slot changes other than in its stage. -/
theorem State.appendOwed_claiming (s : State) (i : SlotId) (item : SaqItem) {f : Slot → Slot}
    (h : (f (s.slot i)).traffic.stage = (s.slot i).traffic.stage) :
    s.Claiming ((s.appendOwed i item).modSlot i f) :=
  ⟨⟨[_], rfl⟩, rfl, rfl, State.SameStages.modSlot (s.appendOwed i item) i h, id⟩

theorem State.answerQueued_claiming (s : State) (i : SlotId) : s.Claiming (s.answerQueued i) := by
  unfold State.answerQueued
  split
  · exact .refl s
  · split
    · split
      · exact (s.appendOwed_claiming i _ (by simp [Slot.dropPosted, Slot.popSend])).trans (State.settleReset_claiming _)
      · exact .refl s
    · exact .refl s

theorem State.answerFenced_claiming (s : State) (i : SlotId) : s.Claiming (s.answerFenced i) := by
  unfold State.answerFenced
  split
  · exact .refl s
  · split
    · exact (s.appendOwed_claiming i _ (by simp)).trans (State.settleReset_claiming _)
    · exact .refl s

theorem State.meetClaim_claiming (s : State) : s.Claiming s.meetClaim := by
  unfold State.meetClaim
  split
  · exact .refl s
  · split
    · exact s.answerFenced_claiming _
    · exact s.answerQueued_claiming _

theorem State.meetClaims_claiming (n : Nat) (s : State) : s.Claiming (State.meetClaims n s) := by
  induction n generalizing s with
  | zero => exact .refl s
  | succ n ih =>
    unfold State.meetClaims
    split
    · exact s.meetClaim_claiming.trans (ih _)
    · exact .refl s

theorem State.settleReset_saq (s : State) : s.settleReset.saq = s.saq := by
  by_cases ho : s.OwesNothing
  · rw [(State.settleReset_eq s).1 ho]
    rfl
  · rw [(State.settleReset_eq s).2 ho]

theorem State.answerFenced_length (hroom : s.saqRoom = true) (hany : (s.slot i).traffic.ort.any Entry.isFenced = true) :
    (s.answerFenced i).saq.length = s.saq.length + 1 := by
  obtain ⟨e, he⟩ := Option.isSome_iff_exists.1 (List.find?_isSome.2 (List.any_eq_true.1 hany))
  simp only [State.answerFenced, he, hroom, if_true, State.settleReset_saq]
  exact List.length_append ..

theorem State.answerQueued_length {tx : Transaction} (hroom : s.saqRoom = true) (hs : (s.slot i).serving = false)
    (hq : (s.slot i).traffic.sendQueue.head? = some tx) (hn : nonPosted tx = true) :
    (s.answerQueued i).saq.length = s.saq.length + 1 := by
  obtain ⟨⟨r, t⟩, hkey⟩ := (nonPosted_iff_key tx).1 hn
  simp only [State.answerQueued, hq, hs, hroom, Bool.not_false, Bool.and_self, if_true, containmentItem_some _ hkey,
    State.settleReset_saq]
  exact List.length_append ..

/-- A slot that a RESET PART in progress waits for, in a sound state: it does not serve, and it has a FENCED entry or a
non-posted head. -/
theorem State.Sound.claim_of_owed (h : s.Sound) (hreset : s.resetScope.isSome = true)
    (howed : (s.slot i).nothingOwed = false) : (s.slot i).serving = false ∧
      ((s.slot i).traffic.ort.any Entry.isFenced = true ∨
        ∃ tx, (s.slot i).traffic.sendQueue.head? = some tx ∧ nonPosted tx = true) := by
  have hserv : (s.slot i).serving = false := by
    unfold Slot.serving
    obtain hst | hst := (h.busy.2 hreset).2 i <;> rw [hst] <;> rfl
  refine ⟨hserv, ?_⟩
  cases hany : (s.slot i).traffic.ort.any Entry.isFenced with
  | true => exact .inl rfl
  | false =>
    simp only [Slot.nothingOwed, hany, Bool.not_false, Bool.true_and] at howed
    cases hq : (s.slot i).traffic.sendQueue.head? with
    | none => simp [List.head?_eq_none_iff.1 hq] at howed
    | some tx => exact .inr ⟨tx, rfl, h.noPosted i hserv tx hq⟩

/-- In a sound state a RESET PART in progress waits for a slot that owes an answer. -/
theorem State.Sound.exists_owed (h : s.Sound) (hreset : s.resetScope.isSome = true) :
    ∃ i ∈ SlotId.all, s.resetWaitsFor i = true ∧ (s.slot i).nothingOwed = false := by
  obtain ⟨scope, hscope⟩ := Option.isSome_iff_exists.1 hreset
  have howed := (h.busy.2 hreset).1
  rw [State.resetOwesNothing, hscope] at howed
  obtain ⟨i, hmem, hi⟩ := List.all_eq_false.1 howed
  exact ⟨i, hmem, by simpa [State.resetWaitsFor, hscope] using hi⟩

/-- In a sound state a RESET PART in progress has a claim to meet, and meeting it fills a place of the SAQ. -/
theorem State.Sound.meetClaim_length (h : s.Sound) (hreset : s.resetScope.isSome = true) (hroom : s.saqRoom = true) :
    s.meetClaim.saq.length = s.saq.length + 1 := by
  unfold State.meetClaim
  cases hf : SlotId.all.find? fun i => s.resetWaitsFor i && !(s.slot i).nothingOwed with
  | none =>
    obtain ⟨i, hmem, hwaits, howed⟩ := h.exists_owed hreset
    exact absurd (List.find?_eq_none.1 hf i hmem) (by simp [hwaits, howed])
  | some i =>
    have hi := List.find?_some hf
    simp only [Bool.and_eq_true, Bool.not_eq_true'] at hi
    obtain ⟨hserv, hclaim⟩ := h.claim_of_owed hreset hi.2
    dsimp only
    split
    · next hany => exact State.answerFenced_length hroom hany
    · next hany =>
      obtain ⟨tx, hq, hn⟩ := hclaim.resolve_left hany
      exact State.answerQueued_length hroom hserv hq hn

/-- With as many claims to meet as the SAQ has places left, the reset ends or the SAQ is full. -/
theorem State.Sound.meetClaims_done (n : Nat) : ∀ {s : State}, s.Sound → 64 ≤ s.saq.length + n →
    (State.meetClaims n s).resetScope = none ∨ (State.meetClaims n s).saq.length = 64 := by
  induction n with
  | zero =>
    intro s h hn
    exact .inr (Nat.le_antisymm h.steady.saq hn)
  | succ n ih =>
    intro s h hn
    unfold State.meetClaims
    by_cases hc : (s.resetScope.isSome && s.saqRoom) = true
    · rw [if_pos hc]
      simp only [Bool.and_eq_true] at hc
      exact ih h.kept_meetClaim.1 (by rw [h.meetClaim_length hc.1 hc.2]; omega)
    · rw [if_neg hc]
      have hle : s.saq.length ≤ 64 := h.steady.saq
      by_cases hnone : s.resetScope = none
      · exact .inl hnone
      · have hfull : ¬s.saq.length < 64 := fun hlt =>
          hc (by simp [Option.isSome_iff_ne_none, hnone, State.saqRoom, Config.saqItems, hlt])
        exact .inr (by omega)

/-- No claim met makes a source ready before SYN on the ring. -/
theorem State.Claiming.nextSource (h : s.Claiming u) (hs : s.Sound) (hn : s.nextSource = some .syn) :
    u.nextSource = some .syn := by
  have hready : ∀ src, src ≠ .syn → s.ready src = false → u.ready src = false := fun src hne hsrc => by
    cases src with
    | slot i => simpa only [State.ready, h.stages i] using hsrc
    | syn => exact absurd rfl hne
    | mgt =>
      have hnone : s.presenting = none := by simpa [State.ready] using hsrc
      simp [State.ready, (h.presents ⟨hnone, (hs.presents.2.2.1 hnone).1⟩).1]
  have hsyn : u.ready .syn = true := by
    obtain ⟨more, hmore⟩ := h.saq
    have hne := State.ready_syn.1 (State.nextSource_ready hn)
    simp [State.ready_syn, hmore, hne]
  rw [State.nextSource, h.lastServed]
  obtain ⟨-, before, after, hring, hbefore⟩ := List.find?_eq_some_iff_append.1 hn
  rw [hring]
  refine find?_split _ _ _ _ (fun src hsrc => ?_) hsyn
  have hno : s.ready src = false := by simpa using hbefore src hsrc
  refine hready src (fun he => ?_) hno
  rw [he, State.nextSource_ready hn] at hno
  cases hno

/-- The item as it goes on the trunk: FFh in ONES style for every byte owed, and none else (R94). -/
theorem SaqItem.toAnswer_eq (it : SaqItem) : it.toAnswer =
    if it.style = .ones then
      .answer it.requester it.tag it.status it.remaining it.remaining (List.replicate it.remaining 0xFF)
    else .answer it.requester it.tag it.status it.remaining 0 [] := by
  unfold SaqItem.toAnswer
  dsimp only
  split <;> rfl

/-- Settles O35: the head item is sent as it stands, after the claims that are left where the reset appended it. -/
theorem synSendsTheHeadItem : Obligations.SynSendsTheHeadItem := by
  refine ⟨fun s it rest hup hn hsaq hclear => ⟨fun howner room => ?_, fun i n older younger e howner hort holder he room hw => ?_⟩,
    fun s it rest room hs hup hn hsaq hheld => ?_⟩
  · rw [exec_egressGrant_syn room hup hn, State.beforeSyn_eq hsaq hclear, State.grantSyn_unowned hsaq howner, ← it.toAnswer_eq]
    rfl
  · rw [exec_egressGrant_syn room hup hn, State.beforeSyn_eq hsaq hclear, State.grantSyn_owned hsaq howner, ← it.toAnswer_eq,
      Slot.ownerTold_eq _ _ _ _ hort holder he hw]
    rfl
  · have hbefore : s.beforeSyn = State.meetClaims 64 s := by
      obtain ⟨hscope, hmarked, hlt⟩ := hheld
      have hroom : s.saqRoom = true := decide_eq_true hlt
      simp only [State.beforeSyn, hsaq, State.resetHolds, hscope, hmarked, hroom, Bool.and_self, if_true, Config.saqItems]
    have hclaiming : s.Claiming s.beforeSyn := hbefore ▸ State.meetClaims_claiming 64 s
    obtain ⟨claims, hclaims, hruns⟩ := s.beforeSyn_runs
    obtain ⟨more, hmore⟩ := hclaiming.saq
    have hdone : s.beforeSyn.resetScope = none ∨ s.beforeSyn.saq.length = 64 :=
      hbefore ▸ hs.meetClaims_done 64 (by omega)
    have hup' := hclaiming.trunkUp.trans hup
    have hn' := hclaiming.nextSource hs hn
    have hsaq' : s.beforeSyn.saq = it :: (rest ++ more) := by rw [hmore, hsaq, List.cons_append]
    refine ⟨claims, s.beforeSyn, more, hclaims, hruns, hdone, hup', hn', hsaq', ?_⟩
    rw [exec_egressGrant_syn room hup hn, exec_egressGrant_syn room hup' hn', State.beforeSyn_eq hsaq']
    rintro ⟨hscope, -, hlen⟩
    obtain hnone | hfull := hdone
    · rw [hnone] at hscope
      cases hscope
    · omega

end Sys2Proof.Machine

/-! The trunk reset (sections 1.8 and 10.5). -/

namespace Sys2Proof.Machine

variable {s t u x : State} {i j : SlotId} {p q : Slot}

/-! ### The ladder at a slot without traffic -/

/-- Nothing of the host is queued for the slot or held by its ORT. -/
def Slot.Emptied (p : Slot) : Prop := p.traffic.ort = [] ∧ p.traffic.sendQueue = []

theorem Slot.Emptied.congr (h : p.Emptied) (ht : q.traffic = p.traffic := by simp) : q.Emptied := by
  rw [Slot.Emptied, ht]
  exact h

theorem Slot.Emptied.cleared (h : p.Emptied) : p.clearedOrt = [] := by rw [Slot.clearedOrt, h.1]; rfl

theorem Slot.Emptied.fenced (h : p.Emptied) : p.fencedOrt = [] := by rw [Slot.fencedOrt, h.1]; rfl

/-- The first phase of a level changes one slot, and neither its state nor its sample nor its record. -/
theorem State.enterFirstPhase_spec (s : State) (i : SlotId) (l : Level) :
    (∀ j, j ≠ i → (s.enterFirstPhase i l).slot j = s.slot j) ∧
    ((s.enterFirstPhase i l).slot i).seq.state = (s.slot i).seq.state ∧
    ((s.enterFirstPhase i l).slot i).seq.sample = (s.slot i).seq.sample ∧
    ((s.enterFirstPhase i l).slot i).current = (s.slot i).current ∧
    ((s.slot i).Emptied → ((s.enterFirstPhase i l).slot i).Emptied) := by
  cases l with
  | function =>
    simp only [State.enterFirstPhase, State.modSlot_withSlotAt, State.withSlotAt_slot]
    exact ⟨fun j hj => s.withSlotAt_slot_ne _ hj, by simp [Slot.enterFunctionReset], by simp [Slot.enterFunctionReset],
      by simp, fun h => h.congr⟩
  | slot =>
    simp only [State.enterFirstPhase, State.modSlot_withSlotAt, State.withSlotAt_slot, Slot.enterResetAssert_eq]
    exact ⟨fun j hj => s.withSlotAt_slot_ne _ hj, rfl, rfl, rfl, fun h => ⟨h.cleared, h.2⟩⟩
  | power =>
    cases hr : (s.rail i.rail).holder with
    | none =>
      simp only [State.enterFirstPhase, State.enterRailWait_free hr, State.withSlotAt_slot]
      exact ⟨fun j hj => by rw [State.withSlotAt_slot_ne _ _ hj, State.slot_setRail], rfl, rfl, rfl,
        fun h => ⟨h.cleared, h.2⟩⟩
    | some k =>
      simp only [State.enterFirstPhase, State.enterRailWait_taken (Option.isSome_iff_exists.2 ⟨k, hr⟩), State.withSlotAt_slot]
      exact ⟨fun j hj => by rw [State.withSlotAt_slot_ne _ _ hj, State.slot_setRail], rfl, rfl, rfl, fun h => h⟩

/-- What the ladder makes of a slot with a PENDING incident and no traffic. -/
structure Slot.Resumed (p q : Slot) : Prop where
  sample  : q.seq.sample = p.seq.sample
  outcome : (q.seq.state = .recovering ∧ q.current.outcome = .pending) ∨
    (q.seq.state = .retired ∧ q.current.outcome = .retired)
  queues  : q.Emptied

theorem Slot.attempting_current (p : Slot) (l : Level) : (p.attempting l).current.outcome = p.current.outcome := by
  unfold Slot.attempting
  dsimp only
  split <;> rfl

theorem State.beginAttempt_resumed (hp : (s.slot i).current.outcome = .pending) (he : (s.slot i).Emptied) (l : Level)
    (afterFailure : Bool) : (∀ j, j ≠ i → (s.beginAttempt i l afterFailure).slot j = s.slot j) ∧
      (s.slot i).Resumed ((s.beginAttempt i l afterFailure).slot i) := by
  obtain ⟨b, hb⟩ : ∃ b, (if afterFailure && l != .function then ((s.slot i).beginLevel l).assertReset
      else (s.slot i).beginLevel l) = { (s.slot i).attempting l with lines := b } := by
    rw [Slot.beginLevel_eq]
    split
    · exact ⟨_, rfl⟩
    · exact ⟨((s.slot i).attempting l).lines, rfl⟩
  rw [State.beginAttempt, State.modSlot_withSlotAt, hb]
  obtain ⟨hothers, hstate, hsample, hcurrent, hqueues⟩ :=
    (s.withSlotAt i { (s.slot i).attempting l with lines := b }).enterFirstPhase_spec i l
  rw [State.withSlotAt_slot] at hstate hsample hcurrent hqueues
  refine ⟨fun j hj => (hothers j hj).trans (s.withSlotAt_slot_ne _ hj), hsample, .inl ⟨hstate, ?_⟩, hqueues he⟩
  rw [hcurrent]
  exact ((s.slot i).attempting_current l).trans hp

/-- A slot without a part in its rail retires by itself. -/
theorem State.retire_resumed (hu : s.Unrailed i) (hp : (s.slot i).current.outcome = .pending) (he : (s.slot i).Emptied)
    (a : RetireAction) : (∀ j, j ≠ i → (s.retire i a).slot j = s.slot j) ∧
      (s.slot i).Resumed ((s.retire i a).slot i) := by
  rw [State.retire_eq, State.retiredAt, State.Unrailed.releaseRail (hu.congr fun r => State.rail_withSlotAt _ _ _ r)]
  refine ⟨fun j hj => ?_, ?_⟩
  · exact ((State.Touches.closedAt _ i _).others j hj).trans (s.withSlotAt_slot_ne _ hj)
  · rw [State.closedAt_eq, State.withSlotAt_slot, State.withSlotAt_slot]
    refine ⟨rfl, .inr ⟨rfl, ?_⟩, he⟩
    exact congrArg Incident.outcome (if_pos hp)

theorem State.climb_resumed (hu : s.Unrailed i) (hp : (s.slot i).current.outcome = .pending) (he : (s.slot i).Emptied)
    (afterFailure : Bool) : (∀ j, j ≠ i → (s.climb i afterFailure).slot j = s.slot j) ∧
      (s.slot i).Resumed ((s.climb i afterFailure).slot i) := by
  unfold State.climb
  split
  · exact State.retire_resumed hu hp he _
  · split
    · exact State.beginAttempt_resumed hp he _ _
    · obtain ⟨v, hv⟩ : ∃ v, v = s.modSlot i Slot.spendFunction := ⟨_, rfl⟩
      have hslot : v.slot i = (s.slot i).spendFunction := by rw [hv, State.slot_modSlot_same]
      have hothers : ∀ j, j ≠ i → v.slot j = s.slot j := fun j hj => by rw [hv, State.slot_modSlot_ne (h := hj)]
      have hu' : v.Unrailed i := hu.congr fun r => by rw [hv, State.modSlot_withSlotAt, State.rail_withSlotAt]
      have hp' : (v.slot i).current.outcome = .pending := by
        rw [hslot, Slot.spendFunction_eq]
        simp only [hp, if_true]
      have he' : (v.slot i).Emptied := by rw [hslot]; exact he.congr
      have hsample : (v.slot i).seq.sample = (s.slot i).seq.sample := by rw [hslot, Slot.spendFunction_eq]
      have hresumed : ∀ w : State, (∀ j, j ≠ i → w.slot j = v.slot j) ∧ (v.slot i).Resumed (w.slot i) →
          (∀ j, j ≠ i → w.slot j = s.slot j) ∧ (s.slot i).Resumed (w.slot i) := fun w ⟨ho, hr⟩ =>
        ⟨fun j hj => (ho j hj).trans (hothers j hj), hr.sample.trans hsample, hr.outcome, hr.queues⟩
      dsimp only
      rw [← hv]
      split
      · exact hresumed _ (State.retire_resumed hu' hp' he' _)
      · exact hresumed _ (State.beginAttempt_resumed hp' he' _ _)
  · exact State.beginAttempt_resumed hp he _ _

/-! ### The end of a drain at a slot without traffic (R84, R85) -/

/-- The automatic-cause test (R85). -/
def Slot.Automatic (p : Slot) (kill : Bool) : Prop :=
  ∃ c, p.current.firstCause = .trip c ∧ c ≠ .external ∧ p.seq.plan.autoCauses.getLsbD c.number = true ∧ kill = false

/-- What the end of a drain makes of a slot `p` without traffic. -/
structure Slot.Drained (p : Slot) (kill : Bool) (q : Slot) : Prop where
  admission : p.current.kind = .admission → q.seq.state = .offline ∧ q.current.outcome = .failed ∧
    q.lines.slotReset = true ∧ q.lines.powerEnable = false
  fenced    : p.current.kind = .fault → ¬p.Automatic kill →
    q.seq.state = .fenced ∧ q.current.outcome = .pending ∧ q.lines = p.lines
  recovers  : p.current.kind = .fault → p.Automatic kill → q.seq.sample = p.seq.plan ∧
    ((q.seq.state = .recovering ∧ q.current.outcome = .pending) ∨ (q.seq.state = .retired ∧ q.current.outcome = .retired))
  state     : q.seq.state ≠ .draining
  queues    : q.Emptied

theorem State.endDraining_drained (hu : s.Unrailed i) (hp : (s.slot i).current.outcome = .pending)
    (he : (s.slot i).Emptied) : (∀ j, j ≠ i → (s.endDraining i).slot j = s.slot j) ∧
      (s.slot i).Drained s.kill ((s.endDraining i).slot i) := by
  cases hk : (s.slot i).current.kind with
  | admission =>
    rw [State.endDraining_of_admission hk, State.admissionFailed, State.withSlotAt_withSlotAt, State.withSlotAt_slot,
      State.Unrailed.releaseRail (hu.congr fun r => State.rail_withSlotAt _ _ _ r)]
    refine ⟨fun j hj => ((State.Touches.closedAt _ i _).others j hj).trans (s.withSlotAt_slot_ne _ hj), ?_⟩
    rw [State.closedAt_eq, State.withSlotAt_slot, State.withSlotAt_slot]
    refine ⟨fun _ => ⟨rfl, congrArg Incident.outcome (if_pos hp), rfl, rfl⟩, fun h => ?_, fun h => ?_, nofun,
      he.fenced, he.2⟩
    · rw [hk] at h; cases h
    · rw [hk] at h; cases h
  | fault =>
    rw [State.endDraining_of_fault hk]
    by_cases ha : s.automatic i = true
    · rw [if_pos ha, State.startRecovery_eq, State.withSlotAt_slot, State.withSlotAt_withSlotAt]
      obtain ⟨hothers, hsample, houtcome, hqueues⟩ := State.climb_resumed (s := s.withSlotAt i (s.slot i).drainFenced.sampled)
        (i := i) (hu.congr fun r => State.rail_withSlotAt _ _ _ r)
        (by
          rw [State.withSlotAt_slot]
          simp only [Slot.sampled, Slot.drainFenced, hp, if_true])
        (by rw [State.withSlotAt_slot]; exact ⟨he.fenced, he.2⟩) false
      refine ⟨fun j hj => (hothers j hj).trans (s.withSlotAt_slot_ne _ hj), fun h => ?_, fun _ hn => ?_, fun _ _ => ?_, ?_,
        hqueues⟩
      · rw [hk] at h; cases h
      · exact absurd (State.automatic_iff.1 ha) hn
      · rw [State.withSlotAt_slot] at hsample
        exact ⟨hsample, houtcome⟩
      · obtain ⟨h, -⟩ | ⟨h, -⟩ := houtcome <;> rw [h] <;> nofun
    · rw [if_neg ha]
      refine ⟨fun j hj => s.withSlotAt_slot_ne _ hj, ?_⟩
      rw [State.withSlotAt_slot]
      refine ⟨fun h => ?_, fun _ _ => ⟨rfl, hp, rfl⟩, fun _ h => absurd (State.automatic_iff.2 h) ha, nofun, he.fenced, he.2⟩
      rw [hk] at h; cases h

theorem Slot.Emptied.idle (h : p.Emptied) : p.liveCount = 0 := by rw [Slot.liveCount, h.1]; rfl

/-- Slots without traffic end their drains one after another. -/
theorem State.foldl_drainIfIdle_drained (l : List SlotId) : ∀ {x : State} {idle : SlotId → Bool}, l.Nodup →
    x.FitsAll idle (fun _ => x.kill) → (∀ j ∈ l, (x.slot j).Emptied) →
    (∀ j, j ∉ l ∨ (x.slot j).seq.state ≠ .draining → (l.foldl State.drainIfIdle x).slot j = x.slot j) ∧
    ∀ j ∈ l, (x.slot j).seq.state = .draining →
      (x.slot j).Drained x.kill ((l.foldl State.drainIfIdle x).slot j) := by
  induction l with
  | nil => exact fun _ _ _ => ⟨fun _ _ => rfl, fun _ h => absurd h List.not_mem_nil⟩
  | cons i is ih =>
    intro x idle hnodup hx he
    obtain ⟨hi, his⟩ := List.nodup_cons.1 hnodup
    have hkill : (x.drainIfIdle i).kill = x.kill := (x.drainIfIdle_quiet i).kill
    have hturn : (∀ j, j ≠ i → (x.drainIfIdle i).slot j = x.slot j) ∧
        ((x.slot i).seq.state ≠ .draining → x.drainIfIdle i = x) ∧
        ((x.slot i).seq.state = .draining → (x.slot i).Drained x.kill ((x.drainIfIdle i).slot i)) := by
      by_cases hs : (x.slot i).seq.state = .draining
      · have hphase : (x.slot i).seq.phase = none := by
          rw [← Option.not_isSome_iff_eq_none, (hx.fits i).shaped.1]
          simp [hs]
        rw [State.drainIfIdle, if_pos ⟨hs, (he i (List.mem_cons_self ..)).idle⟩]
        obtain ⟨hothers, hdrained⟩ := State.endDraining_drained (s := x) (i := i)
          ((hx.grants i).unrailed (grantPhase_none hphase).1 (grantPhase_none hphase).2)
          ((hx.fits i).recorded.1.2 (.inr (by rw [hs]; rfl))) (he i (List.mem_cons_self ..))
        exact ⟨hothers, fun h => absurd hs h, fun _ => hdrained⟩
      · have hsame : x.drainIfIdle i = x := if_neg fun h => hs h.1
        rw [hsame]
        exact ⟨fun _ _ => rfl, fun _ => rfl, fun h => absurd h hs⟩
    obtain ⟨hothers, hsame, hdrained⟩ := hturn
    have hfit := hx.foldl_drainIfIdle [i]
    rw [← hkill] at hfit
    obtain ⟨hrest, hlater⟩ := ih his hfit fun j hj => by
      show ((x.drainIfIdle i).slot j).Emptied
      rw [hothers j fun h => hi (h ▸ hj)]
      exact he j (List.mem_cons_of_mem _ hj)
    simp only [List.foldl_cons, hkill] at hrest hlater ⊢
    refine ⟨fun j hj => ?_, fun j hj hs => ?_⟩
    · by_cases hji : j = i
      · subst hji
        have hs := hj.resolve_left fun h => h (List.mem_cons_self ..)
        rw [hrest j (.inl hi), hsame hs]
      · rw [hrest j (hj.imp (fun h hmem => h (List.mem_cons_of_mem _ hmem)) fun h => by rwa [hothers j hji]), hothers j hji]
    · by_cases hji : j = i
      · subst hji
        rw [hrest j (.inl hi)]
        exact hdrained hs
      · have hjis := (List.mem_cons.1 hj).resolve_left hji
        rw [← hothers j hji]
        exact hlater j hjis (by rwa [hothers j hji])

/-! ### What the reset loses (R15, R17, R19, R21, R43, R64, R175) -/

theorem survivesTrunkReset_eq : survivesTrunkReset = fun tx =>
    match tx with
    | .answer r _ _ _ _ _ => r == 0xFFFF
    | _ => false := by
  funext tx
  cases tx <;> rfl

theorem Slot.trunkReset_eq (p : Slot) : p.trunkReset =
    let lost := p.traffic.recvQueue.countP (fun tx => !isAnswer tx) +
      (match p.traffic.stage with
        | some tx => if isAnswer tx then 0 else 1
        | none => 0)
    { p with
      traffic := { p.traffic with
        sendQueue := [], stage := none, ort := []
        recvQueue := p.traffic.recvQueue.filter fun tx =>
          match tx with
          | .answer r _ _ _ _ _ => r == 0xFFFF
          | _ => false }
      detect := { p.detect with stallCount := p.detect.monitor.stallLimit }
      counters := { p.counters with
        droppedCardRequests := min 4294967295 (p.counters.droppedCardRequests + lost) }
      current := if p.current.outcome = .pending then
          { p.current with dropped := min 65535 (p.current.dropped + lost) }
        else p.current } := by
  unfold Slot.trunkReset
  dsimp only
  rw [Slot.countDroppedCardRequests_eq, survivesTrunkReset_eq]
  rfl

theorem Slot.trunkReset_emptied (p : Slot) : p.trunkReset.Emptied := ⟨p.trunkReset_queues.2, p.trunkReset_queues.1⟩

theorem State.slot_loseTrunk (s : State) (j : SlotId) : s.loseTrunk.slot j = (s.slot j).trunkReset := by
  simp [State.loseTrunk, State.slot]

/-- The tables return to their defaults, and the mailbox stays. -/
theorem State.restoreTables_eq (s : State) : s.restoreTables = { s.resetEnded with mailbox := s.mailbox } := by
  have hmailbox : s.restoreTables.mailbox = s.mailbox := by simp [State.restoreTables]
  rw [← State.endReset_eq, ← hmailbox]
  rfl

/-- The state in which the drains end (R173): a RESET PART in progress has reached its end. -/
def State.trunkLost (s : State) : State := if s.resetScope.isSome then s.loseTrunk.restoreTables else s.loseTrunk

theorem exec_trunkReset_eq (s : State) (order : List SlotId) :
    exec (.trunkReset order) s = .next ((slotOrder order).foldl State.drainIfIdle s.trunkLost).dropPresented := rfl

theorem State.slot_trunkLost (s : State) (j : SlotId) : s.trunkLost.slot j = (s.slot j).trunkReset ∨
    (s.resetScope.isSome = true ∧ s.trunkLost.slot j = (s.slot j).trunkReset.restoreDefaults) := by
  unfold State.trunkLost
  split
  · next h => exact .inr ⟨h, by rw [State.slot_restoreTables, State.slot_loseTrunk]⟩
  · exact .inl (s.slot_loseTrunk j)

theorem State.slot_trunkLost_traffic (s : State) (j : SlotId) :
    (s.trunkLost.slot j).traffic = (s.slot j).trunkReset.traffic := by
  obtain h | ⟨-, h⟩ := s.slot_trunkLost j <;> rw [h]
  rfl

theorem State.slot_trunkLost_emptied (s : State) (j : SlotId) : (s.trunkLost.slot j).Emptied :=
  (s.slot j).trunkReset_emptied.congr (s.slot_trunkLost_traffic j)

/-- With nothing queued and nothing in the ORTs every DRAINING slot of a list ends its drain, whatever the others did. -/
theorem State.foldl_drainIfIdle_of_debt (l : List SlotId) : ∀ {x : State}, (∀ j, (x.slot j).debt = 0) →
    l.foldl State.drainIfIdle x =
      l.foldl (fun x i => if (x.slot i).seq.state = .draining then x.endDraining i else x) x := by
  induction l with
  | nil => exact fun _ => rfl
  | cons i is ih =>
    intro x hx
    have hlive : (x.slot i).liveCount = 0 := by
      have hle : (x.slot i).liveCount ≤ (x.slot i).traffic.ort.countP Entry.owed :=
        List.countP_mono_left fun e _ he => by simp [Entry.owed, he]
      have hdebt := hx i
      unfold Slot.debt at hdebt
      omega
    have hstep : x.drainIfIdle i = if (x.slot i).seq.state = .draining then x.endDraining i else x := by
      simp only [State.drainIfIdle, hlive, and_true]
    rw [List.foldl_cons, List.foldl_cons, ← hstep]
    exact ih fun j => (((x.drainIfIdle_calm i).slots j).debt).trans (hx j)

theorem State.foldl_endDraining_none (l : List SlotId) (h : ∀ j, (x.slot j).seq.state ≠ .draining) :
    l.foldl (fun x i => if (x.slot i).seq.state = .draining then x.endDraining i else x) x = x := by
  induction l with
  | nil => rfl
  | cons i is ih => rw [List.foldl_cons, if_neg (h i), ih]

/-! ### The drains end in the state that is left -/

/-- What the fold of the drains' ends leaves of a sound state. -/
theorem State.Sound.trunkLost_fits (h : s.Sound) : s.trunkLost.FitsAll (fun _ => true) fun _ => s.trunkLost.kill := by
  obtain ⟨-, hfit⟩ := h.loseTrunk
  unfold State.trunkLost
  split
  · exact hfit.restoreTables
  · exact hfit

theorem State.trunkLost_kill (s : State) : s.trunkLost.kill = s.kill := by
  unfold State.trunkLost
  split
  · simp [State.restoreTables, State.loseTrunk]
  · rfl

theorem Slot.trunkReset_current (p : Slot) : ∃ d, p.trunkReset.current = { p.current with dropped := d } := by
  rw [Slot.trunkReset_eq]
  dsimp only
  split
  · exact ⟨_, rfl⟩
  · exact ⟨p.current.dropped, rfl⟩

/-- A slot's drain ends after a trunk reset as it does with the record that the reset leaves. -/
theorem Slot.Drained.of_trunkReset {k : Bool} (h : p.trunkReset.Drained k q) : p.Drained k q := by
  obtain ⟨d, hd⟩ := p.trunkReset_current
  have hkind : p.trunkReset.current.kind = p.current.kind := by rw [hd]
  have hauto : p.trunkReset.Automatic k ↔ p.Automatic k := by
    unfold Slot.Automatic
    rw [hd, Slot.trunkReset_eq]
  obtain ⟨h1, h2, h3, h4, h5⟩ := h
  rw [hkind, hauto] at h2 h3
  rw [hkind] at h1
  rw [Slot.trunkReset_eq] at h2 h3
  exact ⟨h1, h2, h3, h4, h5⟩

theorem State.slot_trunkLost_debt (s : State) (j : SlotId) : (s.trunkLost.slot j).debt = 0 := by
  rw [Slot.debt, (s.slot_trunkLost_emptied j).1, (s.slot_trunkLost_emptied j).2]
  rfl

theorem State.trunkLost_eq (s : State) :
    s.trunkLost = if s.resetScope.isSome then { s.loseTrunk.resetEnded with mailbox := s.loseTrunk.mailbox } else s.loseTrunk := by
  rw [State.trunkLost, State.restoreTables_eq]

theorem State.slot_trunkLost_state (s : State) (j : SlotId) : (s.trunkLost.slot j).seq.state = (s.slot j).seq.state := by
  obtain h | ⟨-, h⟩ := s.slot_trunkLost j <;> rw [h]
  · exact (s.slot j).trunkReset_control.state
  · exact (s.slot j).trunkReset_control.state

/-- What the commands of a trunk reset leave of the part, whatever the state. -/
theorem State.trunkLost_quiet (s : State) (order : List SlotId) :
    s.trunkLost.Quiet ((slotOrder order).foldl State.drainIfIdle s.trunkLost) :=
  (s.trunkLost.foldl_calm State.drainIfIdle_calm (slotOrder order)).quiet

theorem State.trunkLost_part (s : State) : s.trunkLost.counters = s.counters ∧ s.trunkLost.trunkSent = s.trunkSent ∧
    s.trunkLost.mailbox = s.mailbox.trunkReset ∧ s.trunkLost.resetScope = none ∧ s.trunkLost.head = none ∧
    s.trunkLost.trunkUp = false ∧ s.trunkLost.saq = [] := by
  unfold State.trunkLost
  split
  · rw [State.restoreTables_eq]
    exact ⟨rfl, rfl, rfl, rfl, rfl, rfl, rfl⟩
  · next h => exact ⟨rfl, rfl, rfl, by simpa [State.loseTrunk] using h, rfl, rfl, rfl⟩

/-- Settles O49: what is lost slot by slot and in the part, the end of a RESET PART, and the drains that end after it. -/
theorem trunkResetLoses : Obligations.TrunkResetLoses := by
  refine ⟨fun s order => ?_, fun s order => ?_, fun s order h => ?_, fun s => rfl⟩
  · refine ⟨s.slots.map Slot.trunkReset, fun i => ?_, ?_, fun hno hscope => ?_⟩
    · exact (show (s.slots.map Slot.trunkReset).get i = (s.slot i).trunkReset by simp [State.slot]).trans
        (s.slot i).trunkReset_eq
    · refine (exec_trunkReset_eq s order).trans ?_
      rw [State.foldl_drainIfIdle_of_debt _ s.slot_trunkLost_debt, s.trunkLost_eq]
      rfl
    · have hnone := State.foldl_endDraining_none (x := s.trunkLost) (slotOrder order) fun j => by
        rw [s.slot_trunkLost_state]
        exact hno j
      rw [s.trunkLost_eq] at hnone
      exact hnone.trans (if_neg (by simp [hscope]))
  · obtain ⟨hcounters, hsent, hmailbox, hscope, -⟩ := s.trunkLost_part
    have hquiet := s.trunkLost_quiet order
    refine ⟨_, exec_trunkReset_eq s order, rfl, rfl, rfl, hquiet.counters.trans hcounters, hquiet.trunkSent.trans hsent, ?_,
      hquiet.resetScope.trans hscope⟩
    exact congrArg Mailbox.state (hquiet.mailbox.trans hmailbox)
  · obtain ⟨hcounters, hsent, hmailbox, hscope, hhead, hup, hsaq⟩ := s.trunkLost_part
    have hquiet := s.trunkLost_quiet order
    obtain ⟨hsame, hdrained⟩ := State.foldl_drainIfIdle_drained (slotOrder order) (slotOrder_nodup order) h.trunkLost_fits
      fun j _ => s.slot_trunkLost_emptied j
    rw [s.trunkLost_kill] at hdrained
    obtain ⟨x, hx⟩ : ∃ x, x = (slotOrder order).foldl State.drainIfIdle s.trunkLost := ⟨_, rfl⟩
    rw [← hx] at hsame hdrained hquiet
    have hend : ∀ i, (x.slot i).seq.state ≠ .draining ∧ (x.slot i).Emptied := fun i => by
      by_cases hs : (s.trunkLost.slot i).seq.state = .draining
      · exact ⟨(hdrained i (mem_slotOrder order i) hs).state, (hdrained i (mem_slotOrder order i) hs).queues⟩
      · rw [hsame i (.inr hs)]
        exact ⟨hs, s.slot_trunkLost_emptied i⟩
    refine ⟨x.dropPresented, hx ▸ exec_trunkReset_eq s order, ?_, hquiet.head.trans hhead, hquiet.trunkUp.trans hup, rfl,
      congrArg Mailbox.state (hquiet.mailbox.trans hmailbox), hquiet.resetScope.trans hscope, hquiet.trunkSent.trans hsent,
      fun i => ⟨(hend i).1, (hend i).2⟩, fun i hs => ?_, fun hreset => ?_⟩
    · have hslots : ∀ i, (x.dropPresented.slot i).debt = 0 := fun i => by
        show (x.slot i).debt = 0
        rw [Slot.debt, (hend i).2.1, (hend i).2.2]
        rfl
      have hhead' : x.dropPresented.head = none := hquiet.head.trans hhead
      have hsaq' : x.dropPresented.saq = [] := hquiet.saq.trans hsaq
      simp only [State.debt, hhead', hsaq', hslots]
      rfl
    · have hrunning : s.resetScope.isSome ≠ true := fun hreset => by
        obtain hout | hout := (h.busy.2 hreset).2 i <;> rw [hs] at hout <;> cases hout
      have hslot : s.trunkLost.slot i = (s.slot i).trunkReset :=
        (s.slot_trunkLost i).resolve_right fun hreset => hrunning hreset.1
      have hi := hdrained i (mem_slotOrder order i) (by rw [s.slot_trunkLost_state]; exact hs)
      rw [hslot] at hi
      exact ⟨hi.of_trunkReset.admission, hi.of_trunkReset.fenced, hi.of_trunkReset.recovers⟩
    · have hout : ∀ j, (s.trunkLost.slot j).seq.state ≠ .draining := fun j => by
        rw [s.slot_trunkLost_state]
        obtain hs | hs := (h.busy.2 hreset).2 j <;> rw [hs] <;> nofun
      rw [State.foldl_drainIfIdle_of_debt _ s.slot_trunkLost_debt, State.foldl_endDraining_none _ hout, s.trunkLost_eq,
        if_pos hreset] at hx
      rw [hx]
      exact ⟨rfl, rfl, rfl, rfl, rfl, fun i => by cases i <;> exact ⟨rfl, rfl, rfl, rfl⟩⟩

end Sys2Proof.Machine

/-! The tables and settings that mailbox commands write (chapters 1, 3 and 4). -/

namespace Sys2Proof.Machine

variable {s : State} {r : Requester} {t : Tag} {i : SlotId}

/-- A GO that is ready runs the effect of its command's row on the state the GO leaves. -/
theorem State.GoReady.row {code : Nat} {c : Instr} {effect : State → State} (h : s.GoReady r t code)
    (hrow : exec c s = .next (s.runGo code effect)) : exec c s = .next (effect (s.afterGo r t)) :=
  hrow.trans (congrArg _ (h.runGo effect))

/-- A value brought into range, and whether that changed it. -/
theorem okOrClamped_bne (m n : Nat) : okOrClamped (m != n) = if m = n then .ok else .clamped := by
  rw [okOrClamped_eq_ite]
  simp only [bne_eq_false_iff_eq]

theorem settleMonitor_eq (stall err stray decay : Nat) : settleMonitor stall err stray decay =
    { stallLimit := max 100 (min 65535 stall), errThresh := max 1 (min 255 err), strayThresh := max 1 (min 255 stray),
      decay := min 15 decay } := by
  simp only [settleMonitor, clampTo_eq 100 65535 stall (by decide), clampTo_eq 1 255 err (by decide),
    clampTo_eq 1 255 stray (by decide), clampTo_eq 0 15 decay (by decide), Nat.zero_max]

theorem monitorChanged_eq_false_iff (stall err stray decay : Nat) : monitorChanged stall err stray decay = false ↔
    (settleMonitor stall err stray decay).stallLimit = stall ∧ (settleMonitor stall err stray decay).errThresh = err ∧
      (settleMonitor stall err stray decay).strayThresh = stray ∧ (settleMonitor stall err stray decay).decay = decay := by
  simp [monitorChanged, and_assoc]

/-- Settles O51: each value as it is brought into range. -/
theorem tablesSet : Obligations.TablesSet := by
  intro s r t par u stall err stray decay visit prescale
  refine ⟨fun h => h.row (effect := fun v => v.commitWindows.complete) rfl, fun i h hslot => ?_, fun i h hslot => ?_, fun h => ?_, fun h => ?_⟩
  · have hbus : clampTo 0 255 (par 0) = min 255 (par 0) := by rw [clampTo_eq 0 255 _ (by decide), Nat.zero_max]
    have hresult : okOrClamped (min 255 (par 0) != par 0) = if par 0 ≤ 255 then .ok else .clamped := by
      rw [okOrClamped_bne]
      exact if_congr (by omega) rfl rfl
    refine (h.row (effect := fun v => v.setSlotBus.complete) rfl).trans (congrArg _ ?_)
    rw [State.setSlotBus, hslot.withSlot, State.afterGo_param]
    dsimp only
    rw [hbus, hresult]
    rfl
  · refine (h.row (effect := fun v => v.setMonitor.complete) rfl).trans (congrArg _ ?_)
    rw [State.setMonitor, hslot.withSlot]
    simp only [State.afterGo_param, State.done_complete, okOrClamped_eq_ite, monitorChanged_eq_false_iff, settleMonitor_eq,
      State.modSlot_withSlotAt, State.afterGo_slot]
    rfl
  · have hvisit : clampTo 16 4095 (par 0) = visit := clampTo_eq 16 4095 _ (by decide)
    refine (h.row (effect := fun v => v.setVisit.complete) rfl).trans (congrArg _ ?_)
    rw [State.setVisit, State.afterGo_param]
    dsimp only
    rw [hvisit, okOrClamped_bne]
    rfl
  · have hprescale : clampTo 9 65535 (par 0) = prescale := clampTo_eq 9 65535 _ (by decide)
    refine (h.row (effect := fun v => v.setTimebase.complete) rfl).trans (congrArg _ ?_)
    rw [State.setTimebase, State.afterGo_param]
    dsimp only
    rw [hprescale, okOrClamped_bne]
    rfl

end Sys2Proof.Machine

/-! The restore scripts that the host loads and that the part captures (chapter 8). -/

namespace Sys2Proof.Machine

variable {sc : ScriptStore} {off : Offset} {be : ByteEnables} {data : Dword}

/-! ### Captured writes (R145) -/

theorem Step.writesAt_iff {st : Step} : st.writesAt off = true ↔ ∃ e v, st = .write off e v := by
  cases st <;> simp [Step.writesAt]

theorem ScriptStore.stagingSteps_length (h : sc.stagingLength ≤ 64) : sc.stagingSteps.length = sc.stagingLength := by
  simp [ScriptStore.stagingSteps, h]

theorem ScriptStore.stagingSteps_getElem {k : Nat} (hk : k < sc.stagingSteps.length) (h : k < 64) :
    sc.stagingSteps[k] = sc.staging[k] := by
  simp [ScriptStore.stagingSteps]

/-- The first WRITE step of an offset inside the staging script. -/
theorem ScriptStore.findWrite_eq_some (h : sc.stagingLength ≤ 64) {k : Fin 64} {e : ByteEnables} {v : Dword}
    (hk : k.val < sc.stagingLength) (hw : sc.staging[k] = .write off e v)
    (hfirst : ∀ j : Fin 64, j < k → ∀ e' v', sc.staging[j] ≠ .write off e' v') :
    sc.stagingSteps.findIdx? (Step.writesAt off) = some k.val := by
  have hlen := ScriptStore.stagingSteps_length h
  refine List.findIdx?_eq_some_iff_getElem.2 ⟨by omega, ?_, fun j hj => ?_⟩
  · rw [ScriptStore.stagingSteps_getElem (by omega) k.isLt]
    exact Step.writesAt_iff.2 ⟨e, v, hw⟩
  · rw [ScriptStore.stagingSteps_getElem (by omega) (by omega)]
    intro hc
    obtain ⟨e', v', hstep⟩ := Step.writesAt_iff.1 hc
    exact hfirst ⟨j, by omega⟩ hj e' v' hstep

/-- No WRITE step of an offset inside the staging script. -/
theorem ScriptStore.findWrite_eq_none (h : sc.stagingLength ≤ 64)
    (hnone : ∀ k : Fin 64, k.val < sc.stagingLength → ∀ e v, sc.staging[k] ≠ .write off e v) :
    sc.stagingSteps.findIdx? (Step.writesAt off) = none := by
  have hlen := ScriptStore.stagingSteps_length h
  refine List.findIdx?_eq_none_iff.2 fun st hst => ?_
  obtain ⟨k, hk, rfl⟩ := List.mem_iff_getElem.1 hst
  rw [ScriptStore.stagingSteps_getElem hk (by omega), ← Bool.not_eq_true]
  intro hc
  obtain ⟨e, v, hstep⟩ := Step.writesAt_iff.1 hc
  exact hnone ⟨k, by omega⟩ (hlen ▸ hk) e v hstep

/-- One position of a staging copy is replaced. -/
theorem staging_set (staging : Vector Step 64) (k : Nat) (st : Step) (j : Fin 64) :
    (staging.setIfInBounds k st)[j] = if j.val = k then st else staging[j] := by
  rw [Fin.getElem_fin, Vector.getElem_setIfInBounds]
  exact if_congr eq_comm rfl rfl

/-- Settles O55: the first WRITE step of the offset, or a new one, or the overflow. -/
theorem captureMerges : Obligations.CaptureMerges := by
  intro sc off be data hlen
  refine ⟨fun hoff => ?_, fun hcapture hbe => ⟨fun k e v hk hw hfirst => ?_, fun hnone => ⟨fun hroom => ?_, fun hfull => ?_⟩⟩⟩
  · unfold ScriptStore.captureWrite
    obtain hcapture | hbe := hoff
    · rw [if_pos (by simp [hcapture])]
    · rw [if_pos hbe, ite_self]
  · have hwrite : sc.captureWrite off be data = { sc with
        staging := sc.staging.setIfInBounds k.val (.write off (e ||| be) (mergeBytes be v data)) } := by
      have hget : sc.staging.toList.getD k.val Step.idle = .write off e v := by
        rw [← hw]
        simp
      simp only [ScriptStore.captureWrite, hcapture, hbe, Bool.not_true, Bool.false_eq_true, if_false,
        ScriptStore.findWrite_eq_some hlen hk hw hfirst, hget, Step.mergeWrite]
    refine ⟨mergeBytes be v data, _, hwrite, fun j => ?_, fun b hb => mergeBytes_bit be v data b hb⟩
    rw [staging_set]
    exact if_congr Fin.ext_iff.symm rfl rfl
  · refine ⟨sc.staging.setIfInBounds sc.stagingLength (.write off be data), ?_, fun j => staging_set ..⟩
    simp only [ScriptStore.captureWrite, hcapture, hbe, Bool.not_true, Bool.false_eq_true, if_false,
      ScriptStore.findWrite_eq_none hlen hnone, Config.scriptSteps, hroom, if_true]
  · simp only [ScriptStore.captureWrite, hcapture, hbe, Bool.not_true, Bool.false_eq_true, if_false,
      ScriptStore.findWrite_eq_none hlen hnone, Config.scriptSteps, hfull, Nat.lt_irrefl]

/-! ### LOAD STEP (R141) -/

theorem settleOffset_toNat (n : Nat) : (BitVec.ofNat 12 (settleOffset n)).toNat = settleOffset n := by
  rw [BitVec.toNat_ofNat, Nat.mod_eq_of_lt]
  unfold settleOffset
  omega

theorem okOrClamped_or_bne (m n k l : Nat) :
    okOrClamped (m != n || k != l) = if m = n ∧ k = l then .ok else .clamped := by
  rw [okOrClamped_eq_ite]
  simp only [Bool.or_eq_false_iff, bne_eq_false_iff_eq]

/-- A low field and the field above it. -/
theorem place_bytes_toNat (n k : Nat) (hn : n < 256) (hk : k < 256) : (place 0 8 n ||| place 8 8 k).toNat = n + 256 * k := by
  have hlow := place_toNat 0 8 n (by omega)
  have hboth := or_place_toNat (place 0 8 n) 8 8 k (by omega) (by omega)
  omega

theorem dwordOf_settleOffset (n : Nat) : dwordOf (BitVec.ofNat 12 (settleOffset n)).toNat = BitVec.ofNat 32 (settleOffset n) := by
  rw [settleOffset_toNat]
  rfl

/-- The step that LOAD STEP settles for each kind, its result and its response (R140, R141). -/
theorem settleStep_spec (index : Nat) {kind : Nat} (hkind : kind < 4) (p1 p2 p3 p4 : Dword) :
    ∃ st data, settleStep kind p1 p2 p3 p4 = some st ∧
      stepDwords index st = (place 0 8 index ||| place 8 8 kind) :: data ∧
      (kind = 0 → st = .write (BitVec.ofNat 12 (settleOffset p1.toNat)) (p2.extractLsb' 0 4) p3 ∧
        okOrClamped (stepChanged kind p1 p4) = (if settleOffset p1.toNat = p1.toNat then .ok else .clamped) ∧
        data = [BitVec.ofNat 32 (settleOffset p1.toNat), BitVec.ofNat 32 (p2.toNat % 16), p3, 0]) ∧
      (kind = 1 → st = .verify (BitVec.ofNat 12 (settleOffset p1.toNat)) p2 p3 ∧
        okOrClamped (stepChanged kind p1 p4) = (if settleOffset p1.toNat = p1.toNat then .ok else .clamped) ∧
        data = [BitVec.ofNat 32 (settleOffset p1.toNat), p2, p3, 0]) ∧
      (kind = 2 → st = .poll (BitVec.ofNat 12 (settleOffset p1.toNat)) p2 p3 (clampTo 1 1000 p4.toNat) ∧
        okOrClamped (stepChanged kind p1 p4) =
          (if settleOffset p1.toNat = p1.toNat ∧ clampTo 1 1000 p4.toNat = p4.toNat then .ok else .clamped) ∧
        data = [BitVec.ofNat 32 (settleOffset p1.toNat), p2, p3, BitVec.ofNat 32 (clampTo 1 1000 p4.toNat)]) ∧
      (kind = 3 → st = .pause (clampTo 1 1000 p4.toNat) ∧
        okOrClamped (stepChanged kind p1 p4) = (if clampTo 1 1000 p4.toNat = p4.toNat then .ok else .clamped) ∧
        data = [0, 0, 0, BitVec.ofNat 32 (clampTo 1 1000 p4.toNat)]) := by
  have hoff := dwordOf_settleOffset p1.toNat
  have hbe : dwordOf (p2.extractLsb' 0 4 : ByteEnables).toNat = BitVec.ofNat 32 (p2.toNat % 16) := by simp [dwordOf]
  match kind, hkind with
  | 0, _ => exact ⟨_, _, rfl, rfl, fun _ => ⟨rfl, okOrClamped_bne .., by rw [hoff, hbe]⟩, nofun, nofun, nofun⟩
  | 1, _ => exact ⟨_, _, rfl, rfl, nofun, fun _ => ⟨rfl, okOrClamped_bne .., by rw [hoff]⟩, nofun, nofun⟩
  | 2, _ => exact ⟨_, _, rfl, rfl, nofun, nofun, fun _ => ⟨rfl, okOrClamped_or_bne .., by rw [hoff]; rfl⟩, nofun⟩
  | 3, _ => exact ⟨_, _, rfl, rfl, nofun, nofun, nofun, fun _ => ⟨rfl, okOrClamped_bne .., rfl⟩⟩

section

variable {s : State} {r : Requester} {t : Tag} {i : SlotId}

/-- LOAD STEP of a position and a kind that there are. -/
theorem exec_loadStep {st : Step} {index kind : Nat} (h : s.GoReady r t 0x10) (hslot : s.NamesSlot i)
    (hfield : field ((s.afterGo r t).param 0) 0 8 = index) (hkind : field ((s.afterGo r t).param 0) 8 8 = kind)
    (hindex : index < 64) (hst : settleStep kind ((s.afterGo r t).param 1) ((s.afterGo r t).param 2)
      ((s.afterGo r t).param 3) ((s.afterGo r t).param 4) = some st) :
    exec .loadStep s = .next (((s.afterGo r t).withSlotAt i { s.slot i with
        script := { (s.slot i).script with
          staging := (s.slot i).script.staging.setIfInBounds index st } }).finished
      (okOrClamped (stepChanged kind ((s.afterGo r t).param 1) ((s.afterGo r t).param 4))) (stepDwords index st)) := by
  refine (h.row (effect := fun v => v.loadStep.complete) rfl).trans (congrArg _ ?_)
  rw [State.loadStep, hslot.withSlot, hfield, hkind]
  dsimp only
  rw [hst, if_neg (Nat.not_le.2 hindex), State.done_complete, State.modScript, State.modSlot_withSlotAt]
  rfl

/-- LOAD STEP of a position or a kind that there is not. -/
theorem exec_loadStep_badIndex {index kind : Nat} (h : s.GoReady r t 0x10) (hslot : s.NamesSlot i)
    (hfield : field ((s.afterGo r t).param 0) 0 8 = index) (hkind : field ((s.afterGo r t).param 0) 8 8 = kind)
    (hbad : 64 ≤ index ∨ 4 ≤ kind) : exec .loadStep s = .next ((s.afterGo r t).finished .badIndex []) := by
  refine (h.row (effect := fun v => v.loadStep.complete) rfl).trans (congrArg _ ?_)
  rw [State.loadStep, hslot.withSlot, hfield, hkind]
  dsimp only
  by_cases hindex : 64 ≤ index
  · rw [if_pos hindex, State.refuse_complete]
  · obtain ⟨n, rfl⟩ := Nat.exists_eq_add_of_le' (hbad.resolve_left hindex)
    rw [if_neg hindex]
    rfl

/-- A script store of a slot changes as a command completes. -/
theorem State.modScript_finished (f : ScriptStore → ScriptStore) (result : Result) (data : List Dword) :
    (((s.afterGo r t).modScript i f).done result data).complete =
      ((s.afterGo r t).withSlotAt i { s.slot i with script := f (s.slot i).script }).finished result data := by
  rw [State.done_complete, State.modScript, State.modSlot_withSlotAt]
  rfl

end

/-- Settles O54: the staging copy step by step and as a whole, the commit, the capture flag. -/
theorem scriptsEdited : Obligations.ScriptsEdited := by
  intro s r t i hslot par u sc put index kind off time
  have hfield : field (u.param 0) 0 8 = index := by
    show par[0].toNat / 2 ^ 0 % 2 ^ 8 = par[0].toNat % 256
    simp
  refine ⟨fun h => ⟨exec_loadStep_badIndex h hslot hfield rfl, fun hindex hkind => ?_⟩, fun h => ?_,
    fun h => ⟨fun hp => ?_, fun hp hphase => ?_, fun hp hphase => ?_⟩, fun h => ?_⟩
  · have htime : clampTo 1 1000 par[4].toNat = time := clampTo_eq 1 1000 _ (by decide)
    obtain ⟨st, data, hst, hdwords, hkinds⟩ := settleStep_spec index hkind par[1] par[2] par[3] par[4]
    rw [htime] at hkinds
    obtain ⟨hwrite, hverify, hpoll, hpause⟩ := hkinds
    have hexec := exec_loadStep h hslot hfield rfl hindex hst
    rw [hdwords] at hexec
    exact ⟨st, _, _, data, _, hexec, place_bytes_toNat index kind (by omega) (by omega), fun k => staging_set .., hwrite,
      hverify, hpoll, hpause⟩
  · have hn : clampTo 0 64 par[0].toNat = min 64 par[0].toNat := by rw [clampTo_eq 0 64 _ (by decide), Nat.zero_max]
    have hresult : okOrClamped (min 64 par[0].toNat != par[0].toNat) = if par[0].toNat ≤ 64 then .ok else .clamped := by
      rw [okOrClamped_bne]
      exact if_congr (by omega) rfl rfl
    refine ⟨(sc.setLength (min 64 par[0].toNat)).staging, ?_, fun hle => ?_, fun hlt k => ?_⟩
    · refine (h.row (effect := fun v => v.setScriptLength.complete) rfl).trans (congrArg _ ?_)
      rw [State.setScriptLength, hslot.withSlot]
      refine (State.modScript_finished ..).trans ?_
      show (put (sc.setLength (clampTo 0 64 par[0].toNat))).finished (okOrClamped (clampTo 0 64 par[0].toNat != par[0].toNat))
        [dwordOf (clampTo 0 64 par[0].toNat)] = _
      rw [hn, hresult]
      rfl
    · exact if_neg (Nat.not_lt.2 hle)
    · rw [ScriptStore.setLength, if_pos hlt, Fin.getElem_fin, Vector.getElem_mapIdx]
      rfl
  · refine (h.row (effect := fun v => v.commitScript.complete) rfl).trans (congrArg _ ?_)
    rw [State.commitScript, hslot.withSlot]
    exact congrArg Reply.complete (if_pos hp)
  · refine (h.row (effect := fun v => v.commitScript.complete) rfl).trans (congrArg _ ?_)
    rw [State.commitScript, hslot.withSlot]
    refine (congrArg Reply.complete ((if_neg (by simp [hp, sc])).trans (if_pos hphase))).trans ?_
    exact State.modScript_finished ..
  · have hcommit : sc.commit = { sc with active := sc.staging.toList.take sc.stagingLength } := by
      rw [ScriptStore.commit, ← hp]
      rfl
    refine (h.row (effect := fun v => v.commitScript.complete) rfl).trans (congrArg _ ?_)
    rw [State.commitScript, hslot.withSlot]
    refine (congrArg Reply.complete ((if_neg (by simp [hp, sc])).trans (if_neg hphase))).trans ?_
    refine (State.modScript_finished ..).trans ?_
    rw [← hcommit]
  · refine (h.row (effect := fun v => v.setCapture.complete) rfl).trans (congrArg _ ?_)
    rw [State.setCapture, hslot.withSlot]
    exact State.modScript_finished ..

end Sys2Proof.Machine

/-! The commands to the sequencer (sections 6.5 and 6.7). -/

namespace Sys2Proof.Machine

variable {s u : State} {r : Requester} {t : Tag} {i : SlotId} {p q : Slot}

/-! ### HOLD, RESUME, ABORT, RETIRE and RELEASE -/

theorem SlotState.inSequence_iff {st : SlotState} :
    st.inSequence = true ↔ st = .draining ∨ st = .recovering ∨ st = .probation := by
  cases st <;> simp [SlotState.inSequence]

/-- A slot whose sequence has been aborted (R118). -/
def Slot.aborted (q : Slot) (asserted : Bool) : Slot :=
  { q.stopped with
    seq := { q.stopped.seq with state := .fenced, level := none, held := false }
    lines := { q.lines with slotReset := q.lines.slotReset || asserted } }

theorem Slot.aborted_true (q : Slot) : (q.assertReset.stopSequence.setState .fenced).clearHeld = q.aborted true := by
  rw [Slot.stopSequence_eq, Slot.aborted, Bool.or_true]
  rfl

theorem Slot.abortSequence_recovering (h : p.seq.state = .recovering) : p.abortSequence = p.aborted true := by
  simp only [Slot.abortSequence, h, Slot.aborted_true]

theorem Slot.abortSequence_probation (h : p.seq.state = .probation) : p.abortSequence =
    Slot.aborted { p.gatesClosed with traffic := { p.gatesClosed.traffic with ort := p.fencedOrt } } true := by
  simp only [Slot.abortSequence, h, Slot.aborted_true, Slot.closeGates_eq, Slot.fenceAll_eq]
  rfl

/-- The row of a command to the slot it names, taken or refused. -/
theorem State.GoReady.taken {code : Nat} {c : Instr} {f : State → SlotId → Reply} {result : Result} {data : List Dword}
    (h : s.GoReady r t code) (hslot : s.NamesSlot i)
    (hrow : exec c s = .next (s.runGo code fun v => (v.withSlot (f v)).complete))
    (hf : f (s.afterGo r t) i = u.done result data) : exec c s = .next (u.finished result data) := by
  rw [h.row hrow, hslot.withSlot, hf, State.done_complete]

theorem State.GoReady.refused {code : Nat} {c : Instr} {f : State → SlotId → Reply} {result : Result}
    (h : s.GoReady r t code) (hslot : s.NamesSlot i)
    (hrow : exec c s = .next (s.runGo code fun v => (v.withSlot (f v)).complete))
    (hf : f (s.afterGo r t) i = (s.afterGo r t).refuse result) :
    exec c s = .next ((s.afterGo r t).finished result []) := by
  rw [h.row hrow, hslot.withSlot, hf, State.refuse_complete]

/-- ABORT of a slot in a sequence, which leaves the slot `q` (R118). -/
theorem State.GoReady.aborted (h : s.GoReady r t 0x1D) (hslot : s.NamesSlot i)
    (hin : (s.slot i).seq.state.inSequence = true) (hq : (s.slot i).abortSequence = q) :
    exec .abort s = .next ((((s.afterGo r t).withSlotAt i q).releaseRail i).finished .ok []) :=
  h.taken hslot rfl ((if_pos hin).trans (by
    rw [State.abort, State.modSlot_withSlotAt, State.afterGo_slot, hq]))

/-! ### The access that HOLD withheld (R117) -/

theorem Slot.resume_free (h : p.exec.withheld = false) : p.resume = p.clearHeld := by
  simp [Slot.resume, h]

theorem Slot.resume_withheld {a : AccessRequest} (h : p.exec.withheld = true) (ha : p.phaseAccess = some a) :
    p.resume = p.clearHeld.issuing a := by
  rw [Slot.resume, if_pos h]
  exact Slot.issue_eq (p := p.clearHeld) ha

theorem Slot.phaseAccess_functionReset (h : p.seq.phase = some .functionReset) :
    p.phaseAccess = p.seq.sample.functionReset.map fun w => .write w.offset 0xF w.data := by
  simp only [Slot.phaseAccess, h]

/-- Settles O57: each command in the states that take it and in the others. -/
theorem sequencerCommanded : Obligations.SequencerCommanded := by
  intro s r t i hslot u p free working aborted
  have hworking : p.seq.state.inSequence = true ↔ working := SlotState.inSequence_iff
  refine ⟨fun h => ⟨fun hw => ?_, fun hw => ?_⟩, fun h => ⟨fun hh hx => ?_, fun w hh hx hp hw => ?_,
    fun k st a hh hx hp hk hst ha => ?_, fun hh => ?_⟩, fun h => ⟨fun hs => ?_, fun hs => ?_, fun hs => ?_, fun hw => ?_⟩,
    fun h => ⟨fun hs => ?_, fun hs => ?_⟩, fun h => ⟨fun hs => ?_, fun hf hr => ?_⟩⟩
  · exact h.taken hslot rfl (if_pos (hworking.2 hw))
  · exact h.refused hslot rfl (if_neg (mt hworking.1 hw))
  · exact h.taken hslot rfl ((if_pos hh).trans (by
      rw [State.modSlot_withSlotAt, State.afterGo_slot, Slot.resume_free hx]
      rfl))
  · exact h.taken hslot rfl ((if_pos hh).trans (by
      rw [State.modSlot_withSlotAt, State.afterGo_slot,
        Slot.resume_withheld hx ((Slot.phaseAccess_functionReset (p := p) hp).trans (congrArg _ hw))]
      rfl))
  · exact h.taken hslot rfl ((if_pos hh).trans (by
      rw [State.modSlot_withSlotAt, State.afterGo_slot,
        Slot.resume_withheld hx ((Slot.phaseAccess_step hp hk hst).trans ha)]
      rfl))
  · exact h.refused hslot rfl (if_neg (by simp [hh, p]))
  · exact h.aborted hslot (SlotState.inSequence_iff.2 (.inl hs)) (Slot.abortSequence_draining hs)
  · exact h.aborted hslot (SlotState.inSequence_iff.2 (.inr (.inl hs))) (Slot.abortSequence_recovering hs)
  · exact h.aborted hslot (SlotState.inSequence_iff.2 (.inr (.inr hs))) (Slot.abortSequence_probation hs)
  · exact h.refused hslot rfl (if_neg (mt hworking.1 hw))
  · exact h.taken hslot rfl ((if_pos hs).trans (by rw [State.retire_eq]; rfl))
  · exact h.refused hslot rfl (if_neg hs)
  · exact h.taken hslot rfl ((if_pos hs).trans (by rw [State.releaseSlot, State.closeIncident_eq]; rfl))
  · exact h.refused hslot rfl (if_neg (not_or.2 ⟨hf, hr⟩))

end Sys2Proof.Machine

/-! ADMIT and RECOVER (sections 6.3 and 6.7). -/

namespace Sys2Proof.Machine

variable {s u : State} {r : Requester} {t : Tag} {i : SlotId} {p q : Slot}

/-! ### The bring-up (R122) -/

/-- The bring-up of an admission, begun by a slot that stands as `q`. -/
def State.bringUp (s : State) (i : SlotId) (q : Slot) : State :=
  if q.lines.powerControl = true ∧ q.lines.powerEnable = false then
    if (s.rail i.rail).holder = none then
      (s.setRail i.rail { s.rail i.rail with holder := some i }).withSlotAt i (q.attempting .power).inPowerOff
    else (s.setRail i.rail { s.rail i.rail with waiting := some i }).withSlotAt i
      ((q.attempting .power).inPhase .railWait none)
  else s.withSlotAt i (q.attempting .slot).inResetAssert

theorem Slot.bringUpLevel_eq (q : Slot) :
    q.bringUpLevel = if q.lines.powerControl = true ∧ q.lines.powerEnable = false then .power else .slot := by
  simp [Slot.bringUpLevel]

theorem State.beginAttempt_first (s : State) (i : SlotId) (q : Slot) (l : Level) :
    (s.withSlotAt i q).beginAttempt i l false = (s.withSlotAt i (q.attempting l)).enterFirstPhase i l := by
  simp only [State.beginAttempt, Bool.false_and, Bool.false_eq_true, if_false, State.modSlot_withSlotAt,
    State.withSlotAt_slot, State.withSlotAt_withSlotAt, Slot.beginLevel_eq]

theorem State.beginAdmission_eq (s : State) (i : SlotId) (q : Slot) :
    (s.withSlotAt i q).beginAdmission i = s.bringUp i q := by
  rw [State.beginAdmission, State.withSlotAt_slot, State.beginAttempt_first, Slot.bringUpLevel_eq, State.bringUp]
  split
  · split
    · next hr =>
      rw [State.enterFirstPhase, State.enterRailWait_free (by rw [State.rail_withSlotAt]; exact hr)]
      simp only [State.rail_withSlotAt, State.withSlotAt_slot, State.setRail_withSlotAt, State.withSlotAt_withSlotAt]
    · next hr =>
      rw [State.enterFirstPhase, State.enterRailWait_taken (by
        rw [State.rail_withSlotAt]; exact Option.isSome_iff_ne_none.2 hr)]
      simp only [State.rail_withSlotAt, State.withSlotAt_slot, State.setRail_withSlotAt, State.withSlotAt_withSlotAt]
  · simp only [State.enterFirstPhase, State.modSlot_withSlotAt, State.withSlotAt_slot, State.withSlotAt_withSlotAt,
      Slot.enterResetAssert_eq]

theorem State.SameOrigins.beginAdmission (s : State) (i : SlotId) : s.SameOrigins (s.beginAdmission i) :=
  .beginAttempt s i _ false

theorem State.bringUp_sequence (s : State) (i : SlotId) (q : Slot) :
    ((s.bringUp i q).slot i).current.sequence = q.current.sequence := by
  rw [← s.beginAdmission_eq i q]
  refine (congrArg Prod.fst ((State.SameOrigins.beginAdmission (s.withSlotAt i q) i).origin i)).trans ?_
  rw [Slot.origin, State.withSlotAt_slot]

/-- The admission of a slot: its sample, its incident, its bring-up. -/
theorem State.admitSlot_eq (s : State) (i : SlotId) : s.admitSlot i =
    State.bringUp { s.bitRaised i with sequence := s.sequence + 1 } i
      { (s.slot i).sampled with
        previous := (s.slot i).sampled.current
        current := s.newRecord i .admission .admission 0 .offline (s.slot i).admissionView } := by
  rw [State.admitSlot, State.modSlot_withSlotAt, Slot.takeSample_eq, State.openIncident_eq, State.beginAdmission_eq]

theorem State.admitSlot_sequence (s : State) (i : SlotId) :
    ((s.admitSlot i).slot i).current.sequence = s.sequence + 1 := by
  rw [State.admitSlot_eq, State.bringUp_sequence]
  rfl

theorem State.recoverSlot_of_fault (h : (s.slot i).current.kind = .fault) :
    s.recoverSlot i = (s.withSlotAt i (s.slot i).sampled).climb i false := by
  simp only [State.recoverSlot, h, State.startRecovery_eq]

theorem State.recoverSlot_of_admission (h : (s.slot i).current.kind = .admission) :
    s.recoverSlot i = s.bringUp i (s.slot i).sampled := by
  simp only [State.recoverSlot, h, State.modSlot_withSlotAt, Slot.takeSample_eq, State.beginAdmission_eq]

/-- Settles O56: each command where it is taken and where it is not. -/
theorem bringUpBegins : Obligations.BringUpBegins := by
  intro s r t i hslot u p record bringUp
  refine ⟨fun h => ⟨fun hs hk => ?_, fun hno => ?_⟩, fun h => ⟨fun hs hk hf => ?_, fun hs hk ha => ?_, fun hno => ?_⟩⟩
  · exact h.taken hslot rfl ((if_pos ⟨hs, hk⟩).trans (by
      rw [State.admitSlot_sequence, place_sequence, State.admitSlot_eq]
      rfl))
  · exact h.refused hslot rfl (if_neg fun ⟨hs, hk⟩ => hno.elim (· hs) (Bool.eq_false_iff.1 hk))
  · exact h.taken hslot rfl ((if_pos ⟨hs, hk⟩).trans (by rw [State.recoverSlot_of_fault (s := s.afterGo r t) hf]; rfl))
  · exact h.taken hslot rfl ((if_pos ⟨hs, hk⟩).trans (by rw [State.recoverSlot_of_admission (s := s.afterGo r t) ha]; rfl))
  · exact h.refused hslot rfl (if_neg fun ⟨hs, hk⟩ => hno.elim (· hs) (Bool.eq_false_iff.1 hk))

end Sys2Proof.Machine

/-! SET NOTICE and ACK NOTICES (section 9.7). -/

namespace Sys2Proof.Machine

variable {s u : State} {r : Requester} {t : Tag} {x : Presented}

/-! ### What the Management Function presents around a notice (R162, R163, R169) -/

theorem State.queueNotice_presenting (h : u.presenting = some x) (n : Notices) : { u with notices := n }.queueNotice =
    { u with notices := { n with unsent := n.unsent || n.armed } } := by
  unfold State.queueNotice
  cases n.armed <;> simp [State.present, h]

/-- A notice withdrawn while an answer waits: the answer is presented. -/
theorem State.withdrawNotice_answer (h : u.presenting = some x) (hw : u.waitingAnswer.isSome = true) (n : Notices) :
    { u with notices := n }.withdrawNotice =
      { u with notices := { n with unsent := false }, presenting := some .answer } := by
  unfold State.withdrawNotice
  cases x with
  | answer => simp [State.present, h]
  | notice => simp [State.present, h, hw]

/-- The notice settings as SET NOTICE leaves them, and what is presented then (R165). -/
theorem State.applyNotice_eq (h : u.presenting = some x) (hw : u.waitingAnswer.isSome = true) (a : Address) (on : Bool) :
    u.applyNotice a on = { u with
      notices := { summary := u.notices.summary, enabled := on, address := a,
                   unsent := (on && a != 0) && (u.notices.unsent || !u.notices.summary.isClear) }
      presenting := if (on && a != 0) = true then some x else some .answer } := by
  unfold State.applyNotice
  dsimp only [Notices.armed]
  rw [State.withdrawNotice_answer h hw, State.queueNotice_presenting h, ← h]
  dsimp only [Notices.armed]
  obtain harmed | harmed := (on && a != 0).eq_false_or_eq_true.symm
  · simp only [harmed, Bool.false_eq_true, if_false, Bool.false_and]
  · cases u.notices.summary.isClear <;> simp only [harmed, Bool.false_eq_true, if_false, if_true, Bool.or_true,
      Bool.or_false, Bool.true_and, Bool.not_true, Bool.not_false]

/-- The notice settings as ACK NOTICES leaves them, and what is presented then (R164). -/
theorem State.acknowledge_eq (h : u.presenting = some x) (hw : u.waitingAnswer.isSome = true) (bits : Dword) :
    u.acknowledge bits = { u with
      notices := { u.notices with
        summary := u.notices.summary.acknowledge bits
        unsent := !(u.notices.summary.acknowledge bits).isClear && (u.notices.unsent || u.notices.armed) }
      presenting := if (u.notices.summary.acknowledge bits).isClear = true then some .answer else some x } := by
  unfold State.acknowledge
  dsimp only
  rw [State.withdrawNotice_answer h hw, State.queueNotice_presenting h, ← h]
  cases (u.notices.summary.acknowledge bits).isClear <;> simp [Notices.armed]

/-- The two low bits of an address, which R165 clears. -/
theorem getLsbD_noticeMask (b : Nat) : (3 : Address).getLsbD b = decide (b < 2) := by
  rw [show (3 : Address) = (BitVec.allOnes 2).setWidth 64 from rfl, BitVec.getLsbD_setWidth, BitVec.getLsbD_allOnes]
  simp only [Bool.and_eq_right_iff_imp, decide_eq_true_eq]
  omega

theorem alignNotice_eq (a : Address) : alignNotice a = a.extractLsb' 2 62 ++ (0 : BitVec 2) := by
  refine BitVec.eq_of_getLsbD_eq fun b hb => ?_
  have happend : (a.extractLsb' 2 62 ++ (0 : BitVec 2) : BitVec (62 + 2)).getLsbD b =
      if b < 2 then (0 : BitVec 2).getLsbD b else (a.extractLsb' 2 62).getLsbD (b - 2) := BitVec.getLsbD_append
  rw [alignNotice, BitVec.getLsbD_and, BitVec.getLsbD_not, getLsbD_noticeMask, happend, BitVec.getLsbD_extractLsb']
  by_cases hlow : b < 2
  · simp [hlow]
  · simp [hlow, hb, show b - 2 < 62 by omega, show 2 + (b - 2) = b by omega]

theorem placeBit_zero (b : Bool) : placeBit 0 b = if b then 1 else 0 := by cases b <;> rfl

/-- Settles O59: the two settings of the notices and what is presented after each. -/
theorem noticesManaged : Obligations.NoticesManaged := by
  intro s r t par given address enabled sum left shown
  have hshown : some (s.presenting.getD .answer) = shown := by
    rcases hp : s.presenting with _ | _ | _ <;> simp [shown, hp]
  have haddress : alignNotice (addressOf ((s.afterGo r t).param 0) ((s.afterGo r t).param 1)) = address :=
    alignNotice_eq given
  refine ⟨fun h => ⟨if (enabled && address != 0) = true then shown else some .answer, ?_, fun ha => if_pos ha,
    fun ha => if_neg (Bool.eq_false_iff.1 ha)⟩,
    fun h => ⟨if left.isClear = true then some .answer else shown, left.toDword, ?_, left.toDword_toNat,
      fun hl => if_neg (by simp [hl]), fun hl => if_pos hl⟩⟩
  · refine (h.row (effect := fun v => v.setNotice.complete) rfl).trans (congrArg _ ?_)
    rw [State.setNotice, State.done_complete, State.applyNotice_eq (x := s.presenting.getD .answer) rfl rfl, hshown,
      placeBit_zero, okOrClamped_eq_ite]
    simp only [haddress, bne_eq_false_iff_eq]
    rfl
  · refine (h.row (effect := fun v => v.ackNotices.complete) rfl).trans (congrArg _ ?_)
    rw [State.ackNotices, State.done_complete, State.acknowledge_eq (x := s.presenting.getD .answer) rfl rfl, hshown]
    rfl

end Sys2Proof.Machine

/-! SET PLAN (section 6.2). -/

namespace Sys2Proof.Machine

variable {s : State} {r : Requester} {t : Tag} {i : SlotId} {q : Plan}

/-! ### Codes and flags of a dword (R177) -/

theorem levelOf?_eq_some {n : Nat} {l : Level} : levelOf? n = some l ↔ l.rank = n := by
  unfold levelOf?
  split <;> cases l <;> simp_all [Level.rank, eq_comm]

theorem styleOf?_eq_some {n : Nat} {a : AnswerStyle} : styleOf? n = some a ↔ a.number = n := by
  unfold styleOf?
  split <;> cases a <;> simp_all [AnswerStyle.number, eq_comm]

theorem retireOf?_eq_some {n : Nat} {a : RetireAction} : retireOf? n = some a ↔ a.number = n := by
  unfold retireOf?
  split <;> cases a <;> simp_all [RetireAction.number, eq_comm]

theorem bit_eq_decide (d : Dword) (k : Nat) : bit d k = decide (field d k 1 = 1) := by
  rw [bit, BitVec.getLsbD, Nat.testBit_eq_decide_div_mod_eq, field, Nat.pow_one]

theorem bit_eq_true {d : Dword} {k : Nat} : bit d k = true ↔ field d k 1 = 1 := by
  rw [bit_eq_decide, decide_eq_true_iff]

theorem extractByte_toNat (d : Dword) : (d.extractLsb' 0 8).toNat = field d 0 8 := by
  simp [field]

theorem bit_toNat (d : Dword) (k : Nat) : (bit d k).toNat = field d k 1 := by
  rw [bit, BitVec.getLsbD, Nat.toNat_testBit, field, Nat.pow_one]

theorem Level.exists_rank {n : Nat} (h : n ≠ 0) (h4 : n < 4) : ∃ l : Level, l.rank = n := by
  match n with
  | 1 => exact ⟨.function, rfl⟩
  | 2 => exact ⟨.slot, rfl⟩
  | 3 => exact ⟨.power, rfl⟩

theorem AnswerStyle.exists_number {n : Nat} (h : n ≤ 1) : ∃ a : AnswerStyle, a.number = n := by
  match n with
  | 0 => exact ⟨.ones, rfl⟩
  | 1 => exact ⟨.abort, rfl⟩

theorem RetireAction.exists_number {n : Nat} (h : n ≤ 1) : ∃ a : RetireAction, a.number = n := by
  match n with
  | 0 => exact ⟨.holdReset, rfl⟩
  | 1 => exact ⟨.powerOff, rfl⟩

theorem Level.rank_ne_zero (l : Level) : l.rank ≠ 0 := by cases l <;> decide

theorem AnswerStyle.number_le (a : AnswerStyle) : a.number ≤ 1 := by cases a <;> decide

theorem RetireAction.number_le (a : RetireAction) : a.number ≤ 1 := by cases a <;> decide

theorem AnswerStyle.eq_abort_iff {a : AnswerStyle} : a = .abort ↔ a.number = 1 := by cases a <;> decide

theorem RetireAction.eq_powerOff_iff {a : RetireAction} : a = .powerOff ↔ a.number = 1 := by cases a <;> decide

theorem startAvailable_iff {powered hasReset : Bool} {l : Level} : startAvailable powered hasReset l = true ↔
    (l.rank = 1 → hasReset = true) ∧ (l.rank = 3 → powered = true) := by
  cases l <;> simp [startAvailable, Level.rank]

/-! ### The response (R101) -/

/-- The eight dwords of a plan. -/
def Plan.dwords (q : Plan) : Vector Dword 8 := ⟨(planDwords q).toArray, rfl⟩

/-- The offset of a plan's function reset write, 0 where there is none. -/
def Plan.resetOffset (q : Plan) : Nat :=
  match q.functionReset with
  | some w => w.offset.toNat
  | none => 0

/-- Two halves of a dword. -/
theorem place_halves_toNat (n k : Nat) (hn : n < 65536) (hk : k < 65536) :
    (place 0 16 n ||| place 16 16 k).toNat = n + 65536 * k := by
  have hlow := place_toNat 0 16 n (by omega)
  have hboth := or_place_toNat (place 0 16 n) 16 16 k (by omega) (by omega)
  omega

theorem Plan.dwords_codes (q : Plan) (h : q.InRange) : q.dwords[0].toNat =
    q.startLevel.rank + 4 * q.style.number + 16 * q.retireAction.number + 64 * q.restoreOnRecovery.toNat +
      128 * q.restoreOnAdmit.toNat + 256 * q.functionReset.isSome.toNat + 4096 * q.attempts.function +
      65536 * q.attempts.slot + 1048576 * q.attempts.power := by
  obtain ⟨hattempts, -⟩ := h
  have hf : q.attempts.function ≤ 7 := (hattempts .function).2
  have hs : q.attempts.slot ≤ 7 := (hattempts .slot).2
  have hp : q.attempts.power ≤ 7 := (hattempts .power).2
  have hrank : q.startLevel.rank < 4 := by cases q.startLevel <;> decide
  have hstyle : q.style.number < 2 := by cases q.style <;> decide
  have haction : q.retireAction.number < 2 := by cases q.retireAction <;> decide
  have b6 := Bool.toNat_le q.restoreOnRecovery
  have b7 := Bool.toNat_le q.restoreOnAdmit
  have b8 := Bool.toNat_le q.functionReset.isSome
  have h0 := place_toNat 0 2 q.startLevel.rank (by omega)
  have h2 := or_place_toNat (place 0 2 q.startLevel.rank) 2 2 q.style.number (by omega) (by omega)
  have h4 := or_place_toNat _ 4 2 q.retireAction.number (h2.trans_lt (by omega)) (by omega)
  have h6 := or_placeBit_toNat _ 6 q.restoreOnRecovery (h4.trans_lt (by omega)) (by omega)
  have h7 := or_placeBit_toNat _ 7 q.restoreOnAdmit (h6.trans_lt (by omega)) (by omega)
  have h8 := or_placeBit_toNat _ 8 q.functionReset.isSome (h7.trans_lt (by omega)) (by omega)
  have h12 := or_place_toNat _ 12 3 q.attempts.function (h8.trans_lt (by omega)) (by omega)
  have h16 := or_place_toNat _ 16 3 q.attempts.slot (h12.trans_lt (by omega)) (by omega)
  have h20 := or_place_toNat _ 20 3 q.attempts.power (h16.trans_lt (by omega)) (by omega)
  refine h20.trans ?_
  omega

theorem Plan.dwords_causes (q : Plan) : q.dwords[1].toNat = q.autoCauses.toNat + 65536 * q.resetOffset := by
  have hoff : q.resetOffset < 65536 := by
    unfold Plan.resetOffset
    split
    · omega
    · omega
  have hcauses := q.autoCauses.isLt
  have hlow := place_toNat 0 8 q.autoCauses.toNat (by omega)
  have hboth := or_place_toNat (place 0 8 q.autoCauses.toNat) 16 16 q.resetOffset (by omega) (by omega)
  refine hboth.trans ?_
  omega

theorem Plan.dwords_resetData (q : Plan) : q.dwords[2] =
    match q.functionReset with
    | some w => w.data
    | none => 0 := rfl

/-- The timers of a plan in its response. -/
theorem Plan.dwords_timers (q : Plan) (h : q.InRange) :
    q.dwords[3].toNat = q.drain + 65536 * q.assert ∧ q.dwords[4].toNat = q.off + 65536 * q.pwrgdLimit ∧
      q.dwords[5].toNat = q.onSettle + 65536 * q.linkLimit ∧ q.dwords[6].toNat = q.settle + 65536 * q.stepLimit ∧
      q.dwords[7].toNat = q.probation := by
  obtain ⟨-, -, h5, -, h6, -, h7, -, h8, -, h9, -, h10, h11, -, h12, h13⟩ := h
  refine ⟨place_halves_toNat _ _ (by omega) (by omega), place_halves_toNat _ _ (by omega) (by omega),
    place_halves_toNat _ _ (by omega) (by omega), place_halves_toNat _ _ (by omega) (by omega),
    (place_toNat 0 16 q.probation (by omega)).trans (by omega)⟩

/-! ### The plan that the parameters give (R100, R101) -/

/-- The plan of the parameters, brought into range, with the codes read as this level, style and action. -/
def State.givenPlan (s : State) (l : Level) (style : AnswerStyle) (action : RetireAction) : Plan :=
  let n := (planNumbers s).settleAll
  { startLevel := l
    attempts := { function := n.function, slot := n.slot, power := n.power }
    functionReset := if planHasReset s then some { offset := BitVec.ofNat 12 n.offset, data := s.param 2 } else none
    autoCauses := (s.param 1).extractLsb' 0 8
    style := style
    drain := n.drain
    assert := n.assert
    off := n.off
    pwrgdLimit := n.pwrgdLimit
    onSettle := n.onSettle
    linkLimit := n.linkLimit
    settle := n.settle
    stepLimit := n.stepLimit
    probation := n.probation
    restoreOnRecovery := bit (s.param 0) 6
    restoreOnAdmit := bit (s.param 0) 7
    retireAction := action }

/-- The numbers that the settling leaves alone. -/
theorem PlanNumbers.settleAll_eq_self {n : PlanNumbers} : n.settleAll = n ↔
    (1 ≤ n.function ∧ n.function ≤ 7) ∧ (1 ≤ n.slot ∧ n.slot ≤ 7) ∧ (1 ≤ n.power ∧ n.power ≤ 7) ∧
      settleOffset n.offset = n.offset ∧ (0 ≤ n.drain ∧ n.drain ≤ 255) ∧ (1 ≤ n.assert ∧ n.assert ≤ 1000) ∧
      (10 ≤ n.off ∧ n.off ≤ 10000) ∧ (1 ≤ n.pwrgdLimit ∧ n.pwrgdLimit ≤ 1000) ∧ (1 ≤ n.onSettle ∧ n.onSettle ≤ 1000) ∧
      (10 ≤ n.linkLimit ∧ n.linkLimit ≤ 5000) ∧ (0 ≤ n.settle ∧ n.settle ≤ 1000) ∧
      (1 ≤ n.stepLimit ∧ n.stepLimit ≤ 1000) ∧ (0 ≤ n.probation ∧ n.probation ≤ 60000) := by
  obtain ⟨⟩ := n
  simp only [PlanNumbers.settleAll, PlanNumbers.mk.injEq, clampTo_eq_self _ _ _ (show 1 ≤ 7 by decide),
    clampTo_eq_self _ _ _ (show 0 ≤ 255 by decide), clampTo_eq_self _ _ _ (show 1 ≤ 1000 by decide),
    clampTo_eq_self _ _ _ (show 10 ≤ 10000 by decide), clampTo_eq_self _ _ _ (show 10 ≤ 5000 by decide),
    clampTo_eq_self _ _ _ (show 0 ≤ 1000 by decide), clampTo_eq_self _ _ _ (show 0 ≤ 60000 by decide)]

theorem clampTo_zero_lo (hi n : Nat) : clampTo 0 hi n = min hi n := by
  rw [clampTo_eq 0 hi n (Nat.zero_le _), Nat.zero_max]

/-- The attempts of a level: a field of three bits, and at least 1. -/
theorem clampTo_attempts (d : Dword) (lo : Nat) : clampTo 1 7 (field d lo 3) = max 1 (field d lo 3) := by
  have hlt := field_lt d lo 3
  rw [clampTo_eq 1 7 _ (by decide)]
  omega

theorem settleOffset_zero : settleOffset 0 = 0 := by simp [settleOffset]

theorem planNumbers_offset (s : State) : (planNumbers s).settleAll.offset =
    if planHasReset s then settleOffset (field (s.param 1) 16 16) else 0 := by
  simp only [PlanNumbers.settleAll, planNumbers]
  cases planHasReset s
  · simp only [Bool.false_eq_true, if_false, settleOffset_zero]
  · simp only [if_true]

/-- The attempts that the settling leaves alone. -/
theorem attempts_kept_iff (d : Dword) (lo : Nat) : (1 ≤ field d lo 3 ∧ field d lo 3 ≤ 7) ↔ field d lo 3 ≠ 0 := by
  have hlt := field_lt d lo 3
  omega

theorem State.givenPlan_isSome (s : State) (l : Level) (style : AnswerStyle) (action : RetireAction) :
    (s.givenPlan l style action).functionReset.isSome = planHasReset s := by
  simp only [State.givenPlan]
  cases planHasReset s
  · simp only [Bool.false_eq_true, if_false, Option.isSome_none]
  · simp only [if_true, Option.isSome_some]

theorem State.givenPlan_resetOffset (s : State) (l : Level) (style : AnswerStyle) (action : RetireAction) :
    (s.givenPlan l style action).resetOffset = (planNumbers s).settleAll.offset := by
  rw [planNumbers_offset]
  simp only [Plan.resetOffset, State.givenPlan, planNumbers_offset]
  cases planHasReset s
  · simp only [Bool.false_eq_true, if_false]
  · simp only [if_true, settleOffset_toNat]

theorem settleOffset_planNumbers (s : State) : settleOffset (planNumbers s).offset = (planNumbers s).offset ↔
    (planHasReset s = true → (planNumbers s).settleAll.offset = field (s.param 1) 16 16) := by
  rw [planNumbers_offset]
  simp only [planNumbers]
  cases planHasReset s
  · simp only [Bool.false_eq_true, if_false, false_imp_iff, iff_true]
    exact settleOffset_zero
  · simp only [if_true, forall_const]

/-- Which plan is settled, and from which codes. -/
theorem settlePlan_eq_some {powered : Bool} : settlePlan s powered = some q ↔ ∃ l style action,
    l.rank = field (s.param 0) 0 2 ∧ style.number = field (s.param 0) 2 2 ∧ action.number = field (s.param 0) 4 2 ∧
      field (s.param 1) 8 8 = 0 ∧ startAvailable powered (planHasReset s) l = true ∧
      (action = .powerOff → powered = true) ∧ s.givenPlan l style action = q := by
  simp only [← levelOf?_eq_some, ← styleOf?_eq_some, ← retireOf?_eq_some]
  unfold settlePlan
  dsimp only
  split
  · next l style action hl hstyle haction =>
    simp only [hl, hstyle, haction, Option.some.injEq, Option.ite_none_left_eq_some, exists_and_left, exists_eq_left',
      ne_eq, not_not, not_and, Bool.not_eq_true', Bool.not_eq_false]
    rfl
  · next hnone =>
    refine ⟨nofun, ?_⟩
    rintro ⟨l, style, action, hl, hstyle, haction, -⟩
    exact absurd haction (hnone l style action hl hstyle)

/-- Settles O52: the parameters that settle to a plan and those that do not. -/
theorem planSet : Obligations.PlanSet := by
  intro s r t i h hslot f start style action hasReset offset powered usable kept
  have hreset : planHasReset (s.afterGo r t) = hasReset := bit_eq_decide _ 8
  have hrow : exec .setPlan s = .next (Reply.complete (match settlePlan (s.afterGo r t) powered with
    | none => (s.afterGo r t).refuse .planInvalid
    | some p => ((s.afterGo r t).modSlot i fun q => { q with seq := { q.seq with plan := p } }).done
        (okOrClamped ((planNumbers (s.afterGo r t)).settleAll != planNumbers (s.afterGo r t))) (planDwords p))) := by
    rw [h.row (effect := fun v => v.setPlan.complete) rfl, State.setPlan, hslot.withSlot]
    rfl
  have husable : usable ↔ ∃ q, settlePlan (s.afterGo r t) powered = some q := by
    constructor
    · rintro ⟨hstart, hstyle, haction, hzero, hfun, hpow, hact⟩
      obtain ⟨l, hl⟩ := Level.exists_rank hstart (field_lt ..)
      obtain ⟨sty, hsty⟩ := AnswerStyle.exists_number hstyle
      obtain ⟨act, hact'⟩ := RetireAction.exists_number haction
      exact ⟨_, settlePlan_eq_some.2 ⟨l, sty, act, hl, hsty, hact', hzero,
        startAvailable_iff.2 ⟨fun h1 => hreset.trans (hfun (hl.symm.trans h1)), fun h3 => hpow (hl.symm.trans h3)⟩,
        fun ha => hact (hact'.symm.trans (RetireAction.eq_powerOff_iff.1 ha)), rfl⟩⟩
    · rintro ⟨q, hq⟩
      obtain ⟨l, sty, act, hl, hsty, hact, hzero, hstart, hpow, -⟩ := settlePlan_eq_some.1 hq
      obtain ⟨hfun, hpower⟩ := startAvailable_iff.1 hstart
      exact ⟨hl.symm.trans_ne l.rank_ne_zero, hsty.symm.trans_le sty.number_le, hact.symm.trans_le act.number_le, hzero,
        fun h1 => hreset.symm.trans (hfun (hl.trans h1)), fun h3 => hpower (hl.trans h3),
        fun h1 => hpow (RetireAction.eq_powerOff_iff.2 (hact.trans h1))⟩
  refine ⟨fun hno => ?_, fun hu => ?_⟩
  · have hnone : settlePlan (s.afterGo r t) powered = none :=
      Option.eq_none_iff_forall_ne_some.2 fun q hq => hno (husable.2 ⟨q, hq⟩)
    rw [hrow, hnone]
    exact congrArg _ (State.refuse_complete ..)
  · obtain ⟨q, hq⟩ := husable.1 hu
    obtain ⟨l, sty, act, hl, hstyle, haction, -, -, -, rfl⟩ := settlePlan_eq_some.1 hq
    have hrange := (settlePlan_usable (p := s.slot i) hq).1
    obtain ⟨h3, h4, h5, h6, h7⟩ := Plan.dwords_timers _ hrange
    have hoffset : (planNumbers (s.afterGo r t)).settleAll.offset = offset := by
      rw [planNumbers_offset, hreset]
      rfl
    have hkept : (planNumbers (s.afterGo r t)).settleAll = planNumbers (s.afterGo r t) ↔ kept := by
      have hoff := settleOffset_planNumbers (s.afterGo r t)
      rw [hoffset, hreset] at hoff
      exact PlanNumbers.settleAll_eq_self.trans (and_congr (attempts_kept_iff ..) (and_congr (attempts_kept_iff ..)
        (and_congr (attempts_kept_iff ..) (and_congr hoff (and_congr (and_iff_right (Nat.zero_le _)) (and_congr_right'
          (and_congr_right' (and_congr_right' (and_congr_right' (and_congr_right' (and_congr (and_iff_right (Nat.zero_le _))
            (and_congr_right' (and_iff_right (Nat.zero_le _))))))))))))))
    refine ⟨_, if (planNumbers (s.afterGo r t)).settleAll = planNumbers (s.afterGo r t) then .ok else .clamped,
      Plan.dwords _, ?_, fun hk => if_pos (hkept.2 hk), fun hk => if_neg (mt hkept.1 hk), hl,
      AnswerStyle.eq_abort_iff.trans (Eq.congr_left hstyle), RetireAction.eq_powerOff_iff.trans (Eq.congr_left haction), bit_eq_true, bit_eq_true, ?_, ?_, ?_,
      clampTo_zero_lo .., clampTo_eq 1 1000 _ (by decide), clampTo_eq 10 10000 _ (by decide),
      clampTo_eq 1 1000 _ (by decide), clampTo_eq 1 1000 _ (by decide), clampTo_eq 10 5000 _ (by decide),
      clampTo_zero_lo .., clampTo_eq 1 1000 _ (by decide), clampTo_zero_lo .., ?_, ?_, ?_, h3, h4, h5, h6, h7⟩
    · rw [hrow, hq]
      dsimp only
      rw [State.done_complete, okOrClamped_eq_ite, State.modSlot_withSlotAt, State.afterGo_slot]
      simp only [bne_eq_false_iff_eq]
      rfl
    · simp only [State.givenPlan, PlanNumbers.settleAll, planNumbers, clampTo_attempts]
      rfl
    · exact extractByte_toNat _
    · simp only [State.givenPlan, hoffset, hreset]
      rfl
    · rw [Plan.dwords_codes _ hrange, State.givenPlan_isSome]
      simp only [State.givenPlan, hl, hstyle, haction, planHasReset, bit_toNat]
      rfl
    · rw [Plan.dwords_causes, State.givenPlan_resetOffset, hoffset]
      exact congrArg (· + _) (extractByte_toNat _)
    · simp only [Plan.dwords_resetData, State.givenPlan, hreset]
      cases hasReset
      · rfl
      · rfl

end Sys2Proof.Machine

/-! QUERY SLOT, READ INCIDENT and READ COUNTERS (sections 10.6 and 9.6). -/

namespace Sys2Proof.Machine

variable {s : State} {r : Requester} {t : Tag} {i : SlotId} {p : Slot}

/-! ### Codes fit their fields (R177, R178) -/

theorem SlotState.number_lt (st : SlotState) : st.number < 8 := by cases st <;> decide

theorem phaseNumber_lt (ph : Option Phase) : phaseNumber ph < 10 := by rcases ph with _ | _ | _ <;> decide

theorem levelNumber_lt (l : Option Level) : levelNumber l < 4 := by rcases l with _ | _ | _ <;> decide

theorem IncidentKind.number_lt (k : IncidentKind) : k.number < 2 := by cases k <;> decide

theorem FirstCause.number_lt (c : FirstCause) : c.number < 10 := by rcases c with ⟨_ | _⟩ | _ | _ <;> decide

theorem IncidentOutcome.number_lt (o : IncidentOutcome) : o.number < 7 := by cases o <;> decide

theorem TripState.number_lt (st : TripState) : st.number < 3 := by cases st <;> decide

theorem SnapshotTarget.number_lt (g : SnapshotTarget) : g.number < 3 := by
  cases g
  · exact (by decide : 0 < 3)
  · exact (by decide : 1 < 3)
  · exact (by decide : 2 < 3)

theorem slotId_toNat_lt_four (i : SlotId) : i.toNat < 4 := by cases i <;> decide

/-! ### QUERY SLOT (R104, R177) -/

/-- The timer of the current step, by its kind. -/
theorem Slot.currentTimer_eq (p : Slot) : p.currentTimer =
    if p.seq.state = .draining then p.seq.drainTimer
    else if p.seq.state = .probation then p.seq.probationTimer
    else if p.seq.state = .recovering then
      if p.seq.phase = some .restoring then p.stepMainTimer
      else if p.seq.phase = some .railWait ∨ p.seq.phase = none then none
      else p.seq.phaseTimer
    else none := by
  unfold Slot.currentTimer
  cases hs : p.seq.state
  case recovering => rcases hp : p.seq.phase with _ | _ | _ <;> simp
  all_goals simp

theorem Slot.queryDword_toNat (p : Slot) : p.queryDword.toNat =
    p.seq.state.number + 16 * phaseNumber p.seq.phase + 256 * levelNumber p.seq.level + 4096 * p.seq.held.toNat +
      8192 * p.script.commitPending.toNat + 16384 * p.script.capture.toNat + 32768 * p.script.overflow.toNat +
      65536 * (p.remainingUnits % 65536) := by
  have hstate := p.seq.state.number_lt
  have hphase := phaseNumber_lt p.seq.phase
  have hlevel := levelNumber_lt p.seq.level
  have b12 := Bool.toNat_le p.seq.held
  have b13 := Bool.toNat_le p.script.commitPending
  have b14 := Bool.toNat_le p.script.capture
  have b15 := Bool.toNat_le p.script.overflow
  have h0 := place_toNat 0 4 p.seq.state.number (by omega)
  have h4 := or_place_toNat _ 4 4 (phaseNumber p.seq.phase) (h0.trans_lt (by omega)) (by omega)
  have h8 := or_place_toNat _ 8 2 (levelNumber p.seq.level) (h4.trans_lt (by omega)) (by omega)
  have h12 := or_placeBit_toNat _ 12 p.seq.held (h8.trans_lt (by omega)) (by omega)
  have h13 := or_placeBit_toNat _ 13 p.script.commitPending (h12.trans_lt (by omega)) (by omega)
  have h14 := or_placeBit_toNat _ 14 p.script.capture (h13.trans_lt (by omega)) (by omega)
  have h15 := or_placeBit_toNat _ 15 p.script.overflow (h14.trans_lt (by omega)) (by omega)
  have h16 := or_place_toNat _ 16 16 p.remainingUnits (h15.trans_lt (by omega)) (by omega)
  unfold Slot.queryDword
  omega

/-- The attempt counts and the Send Queue's length, as QUERY SLOT answers them. -/
theorem place_attempts_toNat (f n k l : Nat) :
    (place 0 4 f ||| place 4 4 n ||| place 8 4 k ||| place 16 5 l).toNat =
      f % 16 + 16 * (n % 16) + 256 * (k % 16) + 65536 * (l % 32) := by
  have h0 := place_toNat 0 4 f (by omega)
  have h4 := or_place_toNat _ 4 4 n (h0.trans_lt (by omega)) (by omega)
  have h8 := or_place_toNat _ 8 4 k (h4.trans_lt (by omega)) (by omega)
  have h16 := or_place_toNat _ 16 5 l (h8.trans_lt (by omega)) (by omega)
  omega

/-- Four counts, a byte each. -/
theorem place_counts_toNat (f n k l : Nat) :
    (place 0 8 f ||| place 8 8 n ||| place 16 8 k ||| place 24 8 l).toNat =
      f % 256 + 256 * (n % 256) + 65536 * (k % 256) + 16777216 * (l % 256) := by
  have h0 := place_toNat 0 8 f (by omega)
  have h8 := or_place_toNat _ 8 8 n (h0.trans_lt (by omega)) (by omega)
  have h16 := or_place_toNat _ 16 8 k (h8.trans_lt (by omega)) (by omega)
  have h24 := or_place_toNat _ 24 8 l (h16.trans_lt (by omega)) (by omega)
  omega

/-! ### READ INCIDENT (R159, R178) -/

theorem snapshotDwords_length (o : Option Snapshot) : (snapshotDwords o).length = 4 := by
  rcases o with _ | ⟨_ | _ | _, _, _, _⟩ <;> rfl

/-- D7 to D10 of a record. -/
def snapshotVector (o : Option Snapshot) : Vector Dword 4 := ⟨(snapshotDwords o).toArray, snapshotDwords_length o⟩

/-- D0 to D6 of a record. -/
def Incident.leading (r : Incident) : Vector Dword 7 := ⟨(r.dwords.take 7).toArray, rfl⟩

theorem Incident.dwords_eq (r : Incident) : r.dwords = r.leading.toList ++ (snapshotVector r.view.snapshot).toList := rfl

theorem Incident.leading_origin (r : Incident) : r.leading[0].toNat =
    r.sequence.toNat + 65536 * r.slot.toNat + 262144 * r.kind.number + 1048576 * r.firstCause.number +
      16777216 * r.outcome.number + 268435456 * levelNumber r.highest := by
  have hseq := r.sequence.isLt
  have hslot := slotId_toNat_lt_four r.slot
  have hkind := r.kind.number_lt
  have hcause := r.firstCause.number_lt
  have houtcome := r.outcome.number_lt
  have hlevel := levelNumber_lt r.highest
  have h0 := place_toNat 0 16 r.sequence.toNat (by omega)
  have h16 := or_place_toNat _ 16 2 r.slot.toNat (h0.trans_lt (by omega)) (by omega)
  have h18 := or_place_toNat _ 18 1 r.kind.number (h16.trans_lt (by omega)) (by omega)
  have h20 := or_place_toNat _ 20 4 r.firstCause.number (h18.trans_lt (by omega)) (by omega)
  have h24 := or_place_toNat _ 24 4 r.outcome.number (h20.trans_lt (by omega)) (by omega)
  have h28 := or_place_toNat _ 28 2 (levelNumber r.highest) (h24.trans_lt (by omega)) (by omega)
  refine h28.trans ?_
  omega

theorem Incident.leading_course (r : Incident) : r.leading[1].toNat =
    r.further.toNat + 256 * r.tripState.number + 4096 * (r.attempts.function % 8) + 65536 * (r.attempts.slot % 8) +
      1048576 * (r.attempts.power % 8) + 16777216 * (r.view.liveCount % 64) +
      1073741824 * r.view.snapshot.isSome.toNat + 2147483648 * r.closeTime.isSome.toNat := by
  have hfurther := r.further.isLt
  have htrip := r.tripState.number_lt
  have b30 := Bool.toNat_le r.view.snapshot.isSome
  have b31 := Bool.toNat_le r.closeTime.isSome
  have h0 := place_toNat 0 8 r.further.toNat (by omega)
  have h8 := or_place_toNat _ 8 2 r.tripState.number (h0.trans_lt (by omega)) (by omega)
  have h12 := or_place_toNat _ 12 3 r.attempts.function (h8.trans_lt (by omega)) (by omega)
  have h16 := or_place_toNat _ 16 3 r.attempts.slot (h12.trans_lt (by omega)) (by omega)
  have h20 := or_place_toNat _ 20 3 r.attempts.power (h16.trans_lt (by omega)) (by omega)
  have h24 := or_place_toNat _ 24 6 r.view.liveCount (h20.trans_lt (by omega)) (by omega)
  have h30 := or_placeBit_toNat _ 30 r.view.snapshot.isSome (h24.trans_lt (by omega)) (by omega)
  have h31 := or_placeBit_toNat _ 31 r.closeTime.isSome (h30.trans_lt (by omega)) (by omega)
  refine h31.trans ?_
  omega

/-- Two numbers, half a dword each. -/
theorem place_pair_toNat (n k : Nat) : (place 0 16 n ||| place 16 16 k).toNat = n % 65536 + 65536 * (k % 65536) := by
  have h0 := place_toNat 0 16 n (by omega)
  have h16 := or_place_toNat _ 16 16 k (h0.trans_lt (by omega)) (by omega)
  omega

theorem place_half_toNat (n : Nat) : (place 0 16 n).toNat = n % 65536 := by
  have h0 := place_toNat 0 16 n (by omega)
  omega

/-- The dword of a snapshot that names its request. -/
theorem place_request_toNat (k : Nat) (hk : k < 3) (t : Tag) (q : Requester) :
    (place 0 2 k ||| place 8 8 t.toNat ||| place 16 16 q.toNat).toNat = k + 256 * t.toNat + 65536 * q.toNat := by
  have ht := t.isLt
  have hq := q.isLt
  have h0 := place_toNat 0 2 k (by omega)
  have h8 := or_place_toNat _ 8 8 t.toNat (h0.trans_lt (by omega)) (by omega)
  have h16 := or_place_toNat _ 16 16 q.toNat (h8.trans_lt (by omega)) (by omega)
  omega

theorem dwordOf_offset_toNat (off : Offset) : (dwordOf off.toNat).toNat = off.toNat := by
  rw [dwordOf_toNat]
  omega

/-- D7 to D10 of a record with a snapshot. -/
theorem snapshotVector_some (n : Snapshot) :
    (snapshotVector (some n))[0].toNat / 256 = n.tag.toNat + 256 * n.requester.toNat ∧
      (snapshotVector (some n))[3].toNat = n.age % 65536 ∧
      (snapshotVector (some n))[0].toNat % 256 = n.target.number := by
  have hnumber := n.target.number_lt
  have hrequest : (snapshotVector (some n))[0].toNat = _ := place_request_toNat _ hnumber n.tag n.requester
  have hage : (snapshotVector (some n))[3] = place 0 16 n.age := by
    obtain ⟨_ | _ | _, _, _, _⟩ := n
    all_goals rfl
  refine ⟨?_, hage ▸ place_half_toNat n.age, ?_⟩
  · omega
  · omega

/-- Settles O58: what each of the three reads answers. -/
theorem managementReads : Obligations.ManagementReads := by
  intro s r t i hslot u p sel counters zeroed levelCode stateCode phaseCode stepTimer timer
  have hlevel : ∀ l, levelNumber l = levelCode l := fun l => by rcases l with _ | _ | _ <;> rfl
  refine ⟨fun h => ?_, fun h => ⟨fun hsel => ?_, fun hsel => ?_, rfl, rfl, rfl, rfl, rfl, rfl, rfl, rfl⟩,
    fun h => ⟨fun hsel => ?_, fun hsel => ?_, fun hsel => ?_, fun hsel => ?_⟩⟩
  · have hstep : p.stepMainTimer = stepTimer := by
      simp only [Slot.stepMainTimer, Slot.currentStep, stepTimer]
      rcases p.exec.step with _ | k
      · rfl
      · rfl
    have htimer : p.currentTimer = timer := by
      rw [p.currentTimer_eq, hstep]
    refine ⟨p.queryDword, _, _, (h.row (effect := fun v => v.querySlot.complete) rfl).trans (congrArg _ (by
      rw [State.querySlot, hslot.withSlot, State.done_complete]; rfl)), rfl, ?_, place_attempts_toNat .., place_counts_toNat ..⟩
    have hstate : p.seq.state.number = stateCode := by
      cases hs : p.seq.state <;> simp only [stateCode, hs] <;> rfl
    have hphase : phaseNumber p.seq.phase = phaseCode := by
      rcases hp : p.seq.phase with _ | _ | _ <;> simp only [phaseCode, hp] <;> rfl
    rw [p.queryDword_toNat, Slot.remainingUnits, htimer, hstate, hphase, hlevel]
    rfl
  · refine h.refused hslot rfl ?_
    obtain ⟨n, hn⟩ := Nat.exists_eq_add_of_le' hsel
    have hparam : ((s.afterGo r t).param 0).toNat = n + 2 := hn
    simp only [hparam]
  · intro rec' kindCode causeCode outcomeCode tripStateCode
    have hexec : exec .readIncident s = .next (u.finished .ok rec'.dwords) := by
      refine h.taken hslot rfl ?_
      have hparam : ((s.afterGo r t).param 0).toNat = sel := rfl
      obtain hzero | hone : sel = 0 ∨ sel = 1 := by omega
      · simp only [hparam, hzero, rec', if_true]
        rfl
      · simp only [hparam, hone, rec', Nat.one_ne_zero, if_false]
        rfl
    refine ⟨rec'.leading, snapshotVector rec'.view.snapshot, hexec.trans (by rw [Incident.dwords_eq]), ?_, ?_, rfl, rfl,
      place_pair_toNat .., place_pair_toNat .., place_half_toNat .., fun hnone => by rw [hnone]; rfl, fun n hsome => ?_⟩
    · have hkind : rec'.kind.number = kindCode := by cases hk : rec'.kind <;> simp only [kindCode, hk] <;> rfl
      have hcause : rec'.firstCause.number = causeCode := by
        rcases hc : rec'.firstCause with ⟨_ | _⟩ | _ | _ <;> simp only [causeCode, hc] <;> rfl
      have houtcome : rec'.outcome.number = outcomeCode := by
        cases ho : rec'.outcome <;> simp only [outcomeCode, ho] <;> rfl
      have hhighest : levelNumber rec'.highest = levelCode rec'.highest := hlevel _
      rw [rec'.leading_origin, hkind, hcause, houtcome, hhighest]
    · have htrip : rec'.tripState.number = tripStateCode := by
        cases ht : rec'.tripState <;> simp only [tripStateCode, ht] <;> rfl
      rw [rec'.leading_course, htrip]
    · rw [hsome]
      obtain ⟨hname, hage, hnumber⟩ := snapshotVector_some n
      refine ⟨hname, hage, ?_⟩
      obtain ⟨_ | _ | _, _, _, _⟩ := n
      · exact ⟨hnumber, rfl, rfl⟩
      · exact ⟨hnumber, dwordOf_offset_toNat _, rfl⟩
      · exact ⟨hnumber, dwordOf_offset_toNat _, rfl⟩
  · refine h.refused hslot rfl ?_
    obtain ⟨n, hn⟩ := Nat.exists_eq_add_of_le' hsel
    have hparam : ((s.afterGo r t).param 0).toNat = n + 3 := hn
    simp only [hparam]
  · refine h.taken hslot rfl ?_
    have hparam : ((s.afterGo r t).param 0).toNat = 0 := hsel
    simp only [hparam]
    rfl
  · refine h.taken hslot rfl ?_
    have hparam : ((s.afterGo r t).param 0).toNat = 1 := hsel
    simp only [hparam]
    rfl
  · refine h.taken hslot rfl ?_
    have hparam : ((s.afterGo r t).param 0).toNat = 2 := hsel
    simp only [hparam]
    rfl

end Sys2Proof.Machine

/-! RESET PART and its end (section 10.4). -/

namespace Sys2Proof.Machine

variable {s u v : State} {r : Requester} {t : Tag} {i : SlotId} {p : Slot} {x : Presented}

/-! ### The summary bits and the notice of the incidents that the reset closes (R162) -/

/-- The notices once a slot's summary bit is set. -/
def Notices.raised (n : Notices) (i : SlotId) : Notices :=
  { n with
    summary := { n.summary with slots := n.summary.slots.set i true }
    unsent := n.unsent || (n.summary.isClear && n.armed) }

/-- The notices once the summary bits of some slots are set, one after another. -/
def Notices.raisedFor (n : Notices) (closes : SlotId → Bool) (l : List SlotId) : Notices :=
  l.foldl (fun n i => if closes i then n.raised i else n) n

theorem State.bitRaised_presenting (h : s.presenting = some x) (i : SlotId) :
    s.bitRaised i = { s with notices := s.notices.raised i } := by
  simp [State.bitRaised, Notices.raised, h]

theorem Notices.raised_isClear (n : Notices) (i : SlotId) : (n.raised i).summary.isClear = false := by
  cases i <;> simp [Notices.raised, Summary.isClear, PerSlot.set]

/-- What raising the bits of some slots does: no setting changes, the bits join, and the first of them queues a notice. -/
theorem Notices.raisedFor_spec (closes : SlotId → Bool) (l : List SlotId) (n : Notices) :
    n.raisedFor closes l = { n with summary := (n.raisedFor closes l).summary, unsent := (n.raisedFor closes l).unsent } ∧
      (n.raisedFor closes l).summary.killChange = n.summary.killChange ∧
      (∀ i, (n.raisedFor closes l).summary.slots.get i = true ↔
        n.summary.slots.get i = true ∨ (i ∈ l ∧ closes i = true)) ∧
      ((n.raisedFor closes l).unsent = true ↔ n.unsent = true ∨
        (n.summary.isClear = true ∧ n.armed = true ∧ ∃ i ∈ l, closes i = true)) := by
  induction l generalizing n with
  | nil => simp [Notices.raisedFor]
  | cons j l ih =>
    have hcons : n.raisedFor closes (j :: l) = (if closes j then n.raised j else n).raisedFor closes l := rfl
    rw [hcons]
    split
    · next hj =>
      obtain ⟨hsettings, hkill, hbits, hunsent⟩ := ih (n.raised j)
      refine ⟨hsettings, hkill, fun i => (hbits i).trans ?_, hunsent.trans ?_⟩
      · by_cases hij : i = j
        · subst hij
          simp [Notices.raised, hj]
        · simp [Notices.raised, PerSlot.get_set_ne _ _ _ _ hij, hij]
      · rw [n.raised_isClear j]
        simp [Notices.raised, hj]
    · next hj =>
      obtain ⟨hsettings, hkill, hbits, hunsent⟩ := ih n
      refine ⟨hsettings, hkill, fun i => (hbits i).trans ?_, hunsent.trans ?_⟩
      · by_cases hij : i = j
        · subst hij
          simp [hj]
        · simp [hij]
      · simp [hj]

/-! ### The beginning of the reset (R125, R172) -/

/-- The reset closes the slot's incident. -/
def Slot.closesAtReset (p : Slot) : Bool := decide (p.seq.state ≠ .empty ∧ p.current.outcome = .pending)

theorem State.beginResetSlot_eq (h : s.presenting = some x) (i : SlotId) : s.beginResetSlot i = { s with
    slots := s.slots.set i ((s.slot i).resetBegun s.time.now)
    notices := if (s.slot i).closesAtReset then s.notices.raised i else s.notices } := by
  unfold State.beginResetSlot Slot.resetBegun Slot.closesAtReset
  by_cases he : (s.slot i).seq.state = .empty
  · rw [if_pos he, if_pos he, if_neg (by simp [he])]
    rfl
  · rw [if_neg he, if_neg he, State.closeIncident_eq, State.closedAt, State.modSlot_withSlotAt]
    by_cases ho : (s.slot i).current.outcome = .pending
    · simp only [ho, if_true, State.bitRaised_presenting h, he, ne_eq, not_false_eq_true, and_self, decide_true,
        State.withSlotAt_slot, State.withSlotAt_withSlotAt, State.modSlot_withSlotAt, Slot.closedAs]
      rfl
    · simp only [ho, if_false, and_false, decide_false, Bool.false_eq_true,
        State.withSlotAt_slot, State.withSlotAt_withSlotAt, State.modSlot_withSlotAt, Slot.closedAs]
      rfl

theorem State.foldl_beginResetSlot (closes : SlotId → Bool) (l : List SlotId) : ∀ {s : State}, l.Nodup →
    (∀ j ∈ l, (s.slot j).closesAtReset = closes j) → s.presenting = some x →
    ∃ slots, l.foldl State.beginResetSlot s = { s with slots := slots, notices := s.notices.raisedFor closes l } := by
  induction l with
  | nil => exact fun _ _ _ => ⟨_, rfl⟩
  | cons i l ih =>
    intro s hnodup hcloses hp
    obtain ⟨hi, hl⟩ := List.nodup_cons.1 hnodup
    rw [List.foldl_cons, State.beginResetSlot_eq hp, hcloses i List.mem_cons_self]
    refine ih hl (fun j hj => ?_) hp
    have hne : j ≠ i := fun h => hi (h ▸ hj)
    rw [← hcloses j (List.mem_cons_of_mem i hj)]
    exact congrArg Slot.closesAtReset (PerSlot.get_set_ne _ _ _ _ hne)

theorem State.beginReset_slot (s : State) (i : SlotId) : s.beginReset.slot i = (s.slot i).resetBegun s.time.now := by
  obtain ⟨t, -, hslot, hbegin⟩ := s.beginReset_spec
  rw [hbegin]
  exact hslot i

/-- The state in which a RESET PART has begun, its end not yet looked at. -/
def State.resetBegun (s : State) : State :=
  { s with
    slots := s.slots.map fun p => p.resetBegun s.time.now
    notices := s.notices.raisedFor (fun i => (s.slot i).closesAtReset) SlotId.all
    saq := s.saq.map fun item => { item with ofReset := false }
    railA := Rail.free
    railB := Rail.free
    resetScope := some s.nonEmptySlots }

theorem State.resetBegun_slot (s : State) (i : SlotId) : s.resetBegun.slot i = (s.slot i).resetBegun s.time.now :=
  PerSlot.get_map ..

/-- The beginning of a RESET PART while the Management Function presents something. -/
theorem State.beginReset_eq (h : s.presenting = some x) : s.beginReset = s.resetBegun := by
  obtain ⟨slots, hfold⟩ := State.foldl_beginResetSlot (fun i => (s.slot i).closesAtReset) SlotId.all (s := s) (by decide)
    (fun _ _ => rfl) h
  have hslots : slots = s.slots.map fun p => p.resetBegun s.time.now := by
    refine PerSlot.ext_get fun i => ?_
    rw [PerSlot.get_map]
    refine Eq.trans ?_ (s.beginReset_slot i)
    rw [State.beginReset, hfold]
    rfl
  rw [State.beginReset, hfold, hslots]
  rfl

theorem State.resetEnded_slot (s : State) (i : SlotId) : s.resetEnded.slot i = (s.slot i).tablesRestored := by
  cases i <;> rfl

/-- How a slot `p` stands after a RESET PART has stopped it as `q`. -/
def Slot.StoppedAs (p q : Slot) (now : Ticks) : Prop :=
  (p.seq.state = .empty → q.seq.state = .empty ∧ q.current = p.current ∧ q.traffic = p.traffic ∧ q.lines = p.lines) ∧
  (p.seq.state ≠ .empty →
    q.seq.state = .offline ∧ q.seq.phase = none ∧ q.seq.level = none ∧ q.seq.held = false ∧
    q.seq.drainTimer = none ∧ q.seq.probationTimer = none ∧ q.exec.inFlight = none ∧
    q.exec.nextTag = p.exec.nextTag ∧ q.seq.attempts = { function := 0, slot := 0, power := 0 } ∧
    q.lines = p.lines ∧
    q.traffic = { (if p.serving then p.gatesClosed else p).traffic with ort := p.fencedOrt } ∧
    q.current = (if p.current.outcome = .pending then
      { p.current with outcome := .aborted, closeTime := some now } else p.current)) ∧
  q.detect.pendingErrors = 0 ∧ q.detect.pendingStrays = 0 ∧ q.detect.errAcc = 0 ∧ q.detect.strayAcc = 0

theorem Slot.gatesClosed_current (h : p.current.outcome ≠ .pending) : p.gatesClosed.current = p.current :=
  if_neg fun hp => h hp.2

theorem Slot.resetBegun_stopped (p : Slot) (now : Ticks) : p.StoppedAs (p.resetBegun now) now := by
  unfold Slot.resetBegun
  by_cases he : p.seq.state = .empty
  · rw [if_pos he]
    exact ⟨fun _ => ⟨he, rfl, rfl, rfl⟩, fun hne => absurd he hne, rfl, rfl, rfl, rfl⟩
  · rw [if_neg he]
    unfold Slot.beginReset
    have hserving : (p.closedAs .aborted now).serving = p.serving := rfl
    rw [hserving, Slot.stopSequence_eq, Slot.fenceAll_eq, Slot.closeGates_eq]
    refine ⟨fun h => absurd h he, fun _ => ?_, rfl, rfl, rfl, rfl⟩
    cases p.serving with
    | false => exact ⟨rfl, rfl, rfl, rfl, rfl, rfl, rfl, rfl, rfl, rfl, rfl, rfl⟩
    | true =>
      exact ⟨rfl, rfl, rfl, rfl, rfl, rfl, rfl, rfl, rfl, rfl, rfl,
        Slot.gatesClosed_current (p.closedAs_outcome now (by simp))⟩

theorem Slot.resetBegun_policies (p : Slot) (now : Ticks) :
    (p.resetBegun now).seq.plan = p.seq.plan ∧ (p.resetBegun now).deadlines = p.deadlines := by
  unfold Slot.resetBegun
  split
  · exact ⟨rfl, rfl⟩
  · unfold Slot.beginReset
    rw [Slot.stopSequence_eq, Slot.fenceAll_eq, Slot.closeGates_eq]
    dsimp only
    split
    · exact ⟨rfl, rfl⟩
    · exact ⟨rfl, rfl⟩

theorem State.nonEmptySlots_get (s : State) (i : SlotId) :
    s.nonEmptySlots.get i = true ↔ (s.slot i).seq.state ≠ .empty := by
  rw [State.nonEmptySlots, PerSlot.get_map]
  exact bne_iff_ne

/-- When the reset that has just begun goes on. -/
theorem State.resetBegun_owes (s : State) : ¬s.resetBegun.OwesNothing ↔ ∃ i, (s.slot i).seq.state ≠ .empty ∧
    ((∃ e ∈ (s.resetBegun.slot i).traffic.ort, e.state = .fenced) ∨ (s.resetBegun.slot i).traffic.sendQueue ≠ []) := by
  have hscope : s.resetBegun.resetScope = some s.nonEmptySlots := rfl
  simp only [State.OwesNothing, hscope, Option.some.injEq, exists_eq_left', State.nonEmptySlots_get, not_forall,
    not_and_or, not_not, exists_prop, ne_eq]

theorem slotId_mem_all (i : SlotId) : i ∈ SlotId.all := by cases i <;> decide

/-- Settles O60: the reset that goes on, the one that ends at once, its claims, and its end. -/
theorem partResets : Obligations.PartResets := by
  refine ⟨fun s r t h => ?_, fun s scope hs hscope hroom => ?_, fun s hsome => ?_, fun s scope hscope hnothing => ?_⟩
  · have hbegin : (s.afterGo r t).resetPart = (s.afterGo r t).resetBegun.settleReset :=
      congrArg State.settleReset (State.beginReset_eq rfl)
    have hrow : exec .resetPart s = .next (s.afterGo r t).resetBegun.settleReset :=
      (h.row (effect := State.resetPart) rfl).trans (congrArg _ hbegin)
    have howes := (s.afterGo r t).resetBegun_owes
    have hslot := (s.afterGo r t).resetBegun_slot
    by_cases ho : (s.afterGo r t).resetBegun.OwesNothing
    · rw [(State.settleReset_eq _).1 ho] at hrow
      have hended := (s.afterGo r t).resetBegun.resetEnded_slot
      refine ⟨_, hrow, rfl, rfl, rfl, rfl, rfl, rfl, rfl, rfl, rfl, rfl, rfl, rfl, fun i => ?_, ?_, ?_⟩
      · rw [hended, hslot]
        exact (s.slot i).resetBegun_stopped s.time.now
      · rintro ⟨i, hi⟩
        rw [hended] at hi
        exact absurd ho (howes.2 ⟨i, hi⟩)
      · intro _
        refine ⟨rfl, rfl, rfl, rfl, rfl, rfl, rfl, rfl, rfl, ?_, fun i => ?_⟩
        · rcases hp : s.presenting with _ | _ | _
          all_goals simp [State.resetEnded, State.resetBegun, State.afterGo, hp]
        · rw [hended]
          exact ⟨rfl, rfl, rfl, rfl⟩
    · rw [(State.settleReset_eq _).2 ho] at hrow
      refine ⟨_, hrow, rfl, rfl, rfl, rfl, rfl, rfl, rfl, rfl, rfl, rfl, rfl, rfl, fun i => ?_, fun _ => ?_, ?_⟩
      · rw [hslot]
        exact (s.slot i).resetBegun_stopped s.time.now
      · obtain ⟨hsettings, hkill, hbits, hunsent⟩ :=
          Notices.raisedFor_spec (fun i => (s.slot i).closesAtReset) SlotId.all s.notices
        refine ⟨rfl, ⟨_, rfl, s.nonEmptySlots_get⟩, rfl, rfl, rfl, rfl, fun i => ?_, hsettings, hkill, fun i => ?_, ?_, rfl⟩
        · rw [hslot]
          exact (s.slot i).resetBegun_policies s.time.now
        · exact (hbits i).trans (or_congr_right ((and_iff_right (slotId_mem_all i)).trans decide_eq_true_iff))
        · exact hunsent.trans (or_congr_right (and_congr_right' (and_congr_right' (exists_congr fun i =>
            (and_iff_right (slotId_mem_all i)).trans decide_eq_true_iff))))
      · intro hno
        exact absurd (howes.1 ho) hno
  · have hreset : s.resetScope.isSome = true := by rw [hscope]; rfl
    have hsaq : s.saqRoom = true := decide_eq_true hroom
    obtain ⟨i, -, hwaits, howed⟩ := hs.exists_owed hreset
    obtain ⟨hserv, hclaim⟩ := hs.claim_of_owed hreset howed
    refine ⟨i, by simpa [State.resetWaitsFor, hscope] using hwaits, ?_⟩
    obtain hany | ⟨tx, hq, hn⟩ := hclaim
    · exact ⟨s.answerFenced i, State.answerFenced_length hsaq hany, .inl rfl⟩
    · exact ⟨s.answerQueued i, State.answerQueued_length hsaq hserv hq hn, .inr rfl⟩
  · refine congrArg _ ((State.settleReset_eq s).2 ?_)
    rintro ⟨scope, hscope, hnothing⟩
    obtain ⟨i, hi, howed⟩ := hsome scope hscope
    obtain ⟨hfenced, hqueue⟩ := hnothing i hi
    obtain ⟨e, he, hstate⟩ | hne := howed
    · exact hfenced e he hstate
    · exact hne hqueue
  · refine ⟨s.resetEnded, congrArg _ ((State.settleReset_eq s).1 ⟨scope, hscope, hnothing⟩), rfl, fun hne hsome => ?_,
      fun hnotice => ?_, s.resetEnded_slot⟩
    · exact if_neg (not_or.2 ⟨hne, Option.isSome_iff_ne_none.1 hsome⟩)
    · exact if_pos (.inl hnotice)

end Sys2Proof.Machine
